-- ==== Sys2Proof/Word.lean ====
section
/-! DEFINITION. The two widths of the machine: every CPU and PPU register and every bus datum is a byte, the
program counter and every bus address is a 16-bit word (00_scope.md R6). Their bit-field helpers are in
Machine/Bits.lean. -/

namespace Sys2Proof

/-- A byte, 0..255 (R8). -/
abbrev Byte := BitVec 8

/-- A 16-bit address or program counter (R6). -/
abbrev Word := BitVec 16

end Sys2Proof
end

