-- ==== Sys2Proof/Machine/Bits.lean ====
section
/-! DEFINITION. The width and bit-field helpers of 00_scope.md R8 and R9. -/

namespace Sys2Proof.Machine

/-- `cat(h, l)`: a high and a low byte as a word (R9). -/
def cat (h l : Byte) : Word := h ++ l

/-- The high byte of a word. -/
def hiByte (w : Word) : Byte := (w >>> 8).setWidth 8

/-- The low byte of a word. -/
def loByte (w : Word) : Byte := w.setWidth 8

/-- `zext_16` (R9). -/
def zext16 (b : Byte) : Word := b.setWidth 16

/-- `sext_16`: the byte read as two's complement (R9). -/
def sext16 (b : Byte) : Word := b.signExtend 16

/-- A flag as a number. -/
def bit (c : Bool) : Nat := if c then 1 else 0

/-- A flag as the low bit of a byte. -/
def bitByte (c : Bool) : Byte := if c then 1 else 0

end Sys2Proof.Machine
end

