-- ==== Sys2Proof/Config.lean ====
section
/-! DEFINITION. What an implementation fixes: the parameters of 00_scope.md R7 as plain data (`Config`), held in
`State.cfg` so that every statement about all states holds for every setting (log 1); the constants the source
fixes; and the free values, which have no body (the functions of a cartridge other than the default, R84, log 8).
`HOST_EVENTS` is `State.host` and `INIT` the argument of `State.powerOn`. -/

namespace Sys2Proof

/-- A 24-bit colour (R295, R305). -/
structure Rgb where
  r : Byte
  g : Byte
  b : Byte
deriving DecidableEq, Repr

/-- `BRANCH_TIMING` (R372, D4). -/
inductive BranchTiming where
  | sourceRule
  | nmos
deriving DecidableEq, Repr

/-- `NMI_NESTING` (R341, D8). -/
inductive NmiNesting where
  | blockUntilRti
  | nest
deriving DecidableEq, Repr

/-- `IRQ_ENTRY` (R335, D9). -/
inductive IrqEntry where
  | fatal
  | service
deriving DecidableEq, Repr

/-- `INDY_PTR_WRAP` (R131, D14). -/
inductive IndyPtrWrap where
  | zeroPage
  | linear
deriving DecidableEq, Repr

/-- `CART` (R84, D17): the default NROM model of R85-R88, or a cartridge whose six functions are the free values
below (log 8). -/
inductive CartKind where
  | nrom
  | external
deriving DecidableEq, Repr

/-- `PRG_BANKS`, header byte 4: 1 or 2 for the default cartridge (R85). -/
inductive PrgBanks where
  | one
  | two
deriving DecidableEq, Repr

/-- `PRG_WRITE` (R85, D19). -/
inductive PrgWrite where
  | fatal
  | ignore
deriving DecidableEq, Repr

/-- `CHR_WRITE` (R86, D19). -/
inductive ChrWrite where
  | fatal
  | ignore
  | ram
deriving DecidableEq, Repr

/-- `MIRRORING`, header byte 6 bit 0 (R87, D20). -/
inductive Mirroring where
  | horizontal
  | vertical
deriving DecidableEq, Repr

/-- `PAL_READ_BUFFER` (R271, D25). -/
inductive PalReadBuffer where
  | unchanged
  | underlying
deriving DecidableEq, Repr

/-- `PPU_ADDR_HIGH` (R82, D26). -/
inductive PpuAddrHigh where
  | fatal
  | mask14
deriving DecidableEq, Repr

/-- `PAL_RANGE` (R295, D30). -/
inductive PalRange where
  | fatal
  | mask6
deriving DecidableEq, Repr

/-- `SPRITE_ORDER` (R298, R304, D31). -/
inductive SpriteOrder where
  | laterDrawnWins
  | lowerIndexWins
deriving DecidableEq, Repr

/-- `IRQ_LINE` (R31): the level at CPU step n is `levels[n]`, and `after` at every later step. A line that never
settles is not expressible (log 7). -/
structure IrqLine where
  levels : List Bool := []
  after : Bool := false
deriving DecidableEq, Repr

/-- The six LAX opcodes, the default of `UNDOC_ENABLED` (R240). -/
def Config.laxBytes : List Byte := [0xA7, 0xB7, 0xAF, 0xBF, 0xA3, 0xB3]

/-- Rows 0x00-0x1F of the default `SYSTEM_PALETTE` (R296). -/
def Config.paletteLow : Vector Rgb 32 := #v[
  ⟨84, 84, 84⟩, ⟨0, 30, 116⟩, ⟨8, 16, 144⟩, ⟨48, 0, 136⟩, ⟨68, 0, 100⟩, ⟨92, 0, 48⟩, ⟨84, 4, 0⟩, ⟨60, 24, 0⟩,
  ⟨32, 42, 0⟩, ⟨8, 58, 0⟩, ⟨0, 64, 0⟩, ⟨0, 60, 0⟩, ⟨0, 50, 60⟩, ⟨0, 0, 0⟩, ⟨0, 0, 0⟩, ⟨0, 0, 0⟩,
  ⟨152, 150, 152⟩, ⟨8, 76, 196⟩, ⟨48, 50, 236⟩, ⟨92, 30, 228⟩, ⟨136, 20, 176⟩, ⟨160, 20, 100⟩, ⟨152, 34, 32⟩, ⟨120, 60, 0⟩,
  ⟨84, 90, 0⟩, ⟨40, 114, 0⟩, ⟨8, 124, 0⟩, ⟨0, 118, 40⟩, ⟨0, 102, 120⟩, ⟨0, 0, 0⟩, ⟨0, 0, 0⟩, ⟨0, 0, 0⟩]

/-- Rows 0x20-0x3F of the default `SYSTEM_PALETTE` (R296). -/
def Config.paletteHigh : Vector Rgb 32 := #v[
  ⟨236, 238, 236⟩, ⟨76, 154, 236⟩, ⟨120, 124, 236⟩, ⟨176, 98, 236⟩, ⟨228, 84, 236⟩, ⟨236, 88, 180⟩, ⟨236, 106, 100⟩, ⟨212, 136, 32⟩,
  ⟨160, 170, 0⟩, ⟨116, 196, 0⟩, ⟨76, 208, 32⟩, ⟨56, 204, 108⟩, ⟨56, 180, 204⟩, ⟨60, 60, 60⟩, ⟨0, 0, 0⟩, ⟨0, 0, 0⟩,
  ⟨236, 238, 236⟩, ⟨168, 204, 236⟩, ⟨188, 188, 236⟩, ⟨212, 178, 236⟩, ⟨236, 174, 236⟩, ⟨236, 174, 212⟩, ⟨236, 180, 176⟩, ⟨228, 196, 144⟩,
  ⟨204, 210, 120⟩, ⟨180, 222, 120⟩, ⟨168, 226, 144⟩, ⟨152, 226, 180⟩, ⟨160, 214, 228⟩, ⟨160, 162, 160⟩, ⟨0, 0, 0⟩, ⟨0, 0, 0⟩]

/-- The default `SYSTEM_PALETTE`: colour index to 24-bit RGB (R296, D29). -/
def Config.defaultPalette : Vector Rgb 64 := Config.paletteLow ++ Config.paletteHigh

/-- The parameters of R7. Each field's default is R7's; `prgBanks` and `mirroring` have none there and default to
one bank and horizontal mirroring (log 1). -/
structure Config where
  undocEnabled : List Byte := Config.laxBytes
  branchTiming : BranchTiming := .sourceRule
  nmiNesting : NmiNesting := .blockUntilRti
  irqLine : IrqLine := {}
  irqEntry : IrqEntry := .fatal
  indyPtrWrap : IndyPtrWrap := .zeroPage
  cart : CartKind := .nrom
  prgBanks : PrgBanks := .one
  prgWrite : PrgWrite := .fatal
  chrWrite : ChrWrite := .fatal
  mirroring : Mirroring := .horizontal
  palReadBuffer : PalReadBuffer := .unchanged
  ppuAddrHigh : PpuAddrHigh := .fatal
  systemPalette : Vector Rgb 64 := Config.defaultPalette
  palRange : PalRange := .fatal
  spriteOrder : SpriteOrder := .laterDrawnWins
  cyclesPerScanline : Nat := 113
  scanlinesPerFrame : Nat := 262
  vblankClearLine : Nat := 261
deriving DecidableEq, Repr

/-- Every parameter at its default (R7). -/
def Config.default : Config := {}

/-- Cycles reported by a reset, NMI or IRQ entry (R7, R373). -/
def Config.interruptCost : Nat := 7

/-- Extra cycles reported by an OAM DMA (R7, R374). -/
def Config.dmaStall : Nat := 514

/-- `VBLANK_SET_LINE`, which the source fixes (R7, R320). -/
def Config.vblankSetLine : Nat := 241

/-- The last visible scanline (R290, R320). -/
def Config.lastVisibleLine : Nat := 239

/-- `CART.cpu_read` of a cartridge other than the default: a free value; `none` raises (R84, log 8). -/
opaque Config.cartCpuRead : Nat → Word → Option Byte

/-- `CART.cpu_write`: the cartridge's next state, or `none` where it raises (R84, log 8). -/
opaque Config.cartCpuWrite : Nat → Word → Byte → Option Nat

/-- `CART.chr_read` (R84, log 8). -/
opaque Config.cartChrRead : Nat → Word → Option Byte

/-- `CART.chr_write` (R84, log 8). -/
opaque Config.cartChrWrite : Nat → Word → Byte → Option Nat

/-- `CART.nt_read` (R84, log 8). -/
opaque Config.cartNtRead : Nat → Word → Option Byte

/-- `CART.nt_write` (R84, log 8). -/
opaque Config.cartNtWrite : Nat → Word → Byte → Option Nat

end Sys2Proof
end

