-- ==== Sys2Proof/Machine/State.lean ====
section
/-! DEFINITION. The state of the block as plain data: everything spec/10_state.md gives the machine, the fault kinds
of 60_exceptions.md R330, the outcome types, and the state at power-on (70_reset_and_hazards.md R360). -/

namespace Sys2Proof.Machine

/-- A byte memory: address and byte pairs in one canonical form, addresses strictly rising and no entry equal to
`Memory.blank`, the byte an unlisted address reads as (`Memory.wf`, Machine/Memory.lean; log 3). -/
abbrev Memory := List Host.Cell

/-- Whether a bus access reads or writes, as a fault records it (R330). -/
inductive Access where
  | read
  | write
deriving DecidableEq, Repr

/-- The fault kinds of R330 with the information each records. Each stops the machine where the spec says the block
stops, so each is safe: a raise keeps what the step did before it (R12) and nothing runs afterwards (R331). -/
inductive FaultKind where
  /-- Raised by the fetch of an undefined byte, or of an undocumented byte not in `UNDOC_ENABLED` (R106): the byte
  and its address. Safe. -/
  | undefinedOpcode (op : Byte) (addr : Word)
  /-- Raised by a CPU bus access to 0x4018-0x401F or to a cartridge address the cartridge does not map (R68, R85,
  R88). Safe. -/
  | unmappedCpuAddress (addr : Word) (access : Access)
  /-- Raised by a PPU bus access at 0x4000 or above under `PPU_ADDR_HIGH = Fatal`, or by a pattern write under
  `CHR_WRITE = Fatal` (R82, R83, R86, R271). Safe. -/
  | unmappedPpuAddress (addr : Word) (access : Access)
  /-- Raised by the CPU step that would take an IRQ under `IRQ_ENTRY = Fatal` (R335): the PC at the boundary. Safe. -/
  | irqUnimplemented (pc : Word)
  /-- Raised by `RequestNmi` while an NMI is pending (R336). Safe. -/
  | nmiDoubleRequest
  /-- Raised by a pixel whose palette byte is 0x40 or more under `PAL_RANGE = Fatal` (R295). Safe. -/
  | paletteRange (p : Byte)
  /-- No rule raises it: the bus decoder yields an index 0..7 (R276). Safe. -/
  | invalidPpuRegister (index : Nat)
  /-- The loader's, before power-on: never raised inside the block (R330). Safe. -/
  | malformedCartridge
deriving DecidableEq, Repr

/-- The six flags of the status register (R23). There is no stored break flag and no stored bit 5. -/
structure Flags where
  n : Bool
  v : Bool
  d : Bool
  i : Bool
  z : Bool
  c : Bool
deriving DecidableEq, Repr

/-- The CPU's registers (R20-R23) and interrupt latches (R30). `sp` is the spec's S. -/
structure Cpu where
  a : Byte
  x : Byte
  y : Byte
  sp : Byte
  pc : Word
  flags : Flags
  resetPending : Bool
  nmiPending : Bool
  servicing : Bool
deriving DecidableEq, Repr

/-- What one CPU step leaves for its cost: `dma_stall` (R33), `taken` (R200, R332) and `crossed` (R120). Cleared when
a CPU step starts (log 11). -/
structure Scratch where
  crossed : Bool
  taken : Bool
  dmaStall : Nat
deriving DecidableEq, Repr

/-- The PPU's registers, latches, OAM and palette RAM (R35-R42, R94). -/
structure Ppu where
  ctrl : Byte
  mask : Byte
  vblank : Bool
  oamAddr : Byte
  v : BitVec 15
  t : BitVec 15
  x : BitVec 3
  w : Bool
  buffer : Byte
  oam : Memory
  pal : Memory
deriving DecidableEq, Repr

/-- The controller (R44). -/
structure Controller where
  buttons : Byte
  shift : Byte
  strobe : Bool
deriving DecidableEq, Repr

/-- Where the machine stands in `RunFrame` (R320): about to start scanline `line`, in the loop that spends its cycle
budget, or about to render it (log 5). -/
inductive Phase where
  | startLine (line : Nat)
  | cpu
  | raster
deriving DecidableEq, Repr

/-- The frame driver (R45). -/
structure Driver where
  acc : Nat
  line : Nat
  phase : Phase
deriving DecidableEq, Repr

/-- The cartridge's state (R46): `prg` by offset from 0x8000 within its banks, `chr` by pattern address, `ciram` by
cell; `external` is what the functions of a cartridge other than the default close over (R84, log 8). -/
structure Cart where
  prg : Memory
  chr : Memory
  ciram : Memory
  external : Nat
deriving DecidableEq, Repr

/-- The eight buttons (R44, R310). -/
inductive Button where
  | a
  | b
  | select
  | start
  | up
  | down
  | left
  | right
deriving DecidableEq, Repr

/-- A call the host makes between two agent steps (R310, R324, R361). -/
inductive HostCall where
  | update (button : Button) (pressed : Bool)
  | hostReset
deriving DecidableEq, Repr

/-- The pixel buffer (R43), one memory a row: byte `3*(row*256 + col) + k` of `fb` is byte `3*col + k` of row `row`
(log 17). -/
abbrev PixelBuffer := Vector Memory 240

/-- The whole state of the block. `host` is the queue of host calls before each step (`HOST_EVENTS`, R324): DESIGN CHOICE, a
finite list, so that a host that goes on calling for ever is not expressible (log 6). `cpuSteps` is the n of R332, `cfg`
the parameters of R7 (log 1). -/
structure State where
  cpu : Cpu
  scratch : Scratch
  fault : Option FaultKind
  ram : Memory
  ppu : Ppu
  fb : PixelBuffer
  ctl : Controller
  drv : Driver
  cart : Cart
  cpuSteps : Nat
  host : List (List HostCall)
  cfg : Config
deriving DecidableEq, Repr

/-- Why the machine stops. -/
inductive Fault where
  /-- `raise Fatal(kind, info)` of R12, from whatever raised `kind`: `halted` is the state the machine stays in, with
  what the step did before the raise and `fault` set (R331, log 4). Safe: no later state exists. -/
  | fatal (kind : FaultKind) (halted : State)
deriving DecidableEq, Repr

/-- Why the model answers nothing. -/
inductive Refusal where
  /-- The arm of `exec` has no meaning yet. No arm uses it. Safe. -/
  | notModelled (mnemonic : String)
deriving DecidableEq, Repr

/-- What a step answers. -/
abbrev Outcome := Host.Outcome State Fault Refusal

/-- The power-on draws `INIT` (R360, D6, D47): every field the source does not fix. -/
structure Init where
  a : Byte
  x : Byte
  y : Byte
  sp : Byte
  pc : Word
  flags : Flags
  ram : Memory
  ppu : Ppu
  fb : PixelBuffer
  ciram : Memory
deriving DecidableEq, Repr

/-- `INIT = Zero`, an allowed setting of the draws (R360); State.reset takes it (log 2). -/
def Init.zero : Init :=
  { a := 0, x := 0, y := 0, sp := 0, pc := 0
    flags := { n := false, v := false, d := false, i := false, z := false, c := false }
    ram := []
    ppu := { ctrl := 0, mask := 0, vblank := false, oamAddr := 0, v := 0, t := 0, x := 0, w := false, buffer := 0
             oam := [], pal := [] }
    fb := Vector.replicate 240 []
    ciram := [] }

/-- What the loader gives the block before power-on (R46, R85, R86): the cartridge's bytes, and the starting state
of a cartridge other than the default. -/
structure Image where
  prg : Memory
  chr : Memory
  external : Nat
deriving DecidableEq, Repr

/-- An image with no byte listed (log 9). -/
def Image.empty : Image := { prg := [], chr := [], external := 0 }

/-- The power-on state of R360, for every setting of the parameters, image and draws. -/
def State.powerOn (cfg : Config) (image : Image) (init : Init) : State :=
  { cpu := { a := init.a, x := init.x, y := init.y, sp := init.sp, pc := init.pc, flags := init.flags
             resetPending := true, nmiPending := false, servicing := false }
    scratch := { crossed := false, taken := false, dmaStall := 0 }
    fault := none
    ram := init.ram
    ppu := init.ppu
    fb := init.fb
    ctl := { buttons := 0, shift := 0, strobe := false }
    drv := { acc := 0, line := 0, phase := .startLine 0 }
    cart := { prg := image.prg, chr := image.chr, ciram := init.ciram, external := image.external }
    cpuSteps := 0
    host := []
    cfg := cfg }

/-- The machine right after power-on with every parameter at its default, no image loaded and every draw zero
(R360, log 2, log 9). -/
def State.reset : State := State.powerOn Config.default Image.empty Init.zero

end Sys2Proof.Machine
end

