-- ==== Sys2Proof/Machine/Registers.lean ====
section
/-! DEFINITION. The named writes of the machine's registers and parts (10_state.md). None is hard-wired (R20), so a
read is the field. -/

namespace Sys2Proof.Machine

def State.setCpu (s : State) (v : Cpu) : State := { s with cpu := v }
def State.setScratch (s : State) (v : Scratch) : State := { s with scratch := v }
def State.setRam (s : State) (v : Memory) : State := { s with ram := v }
def State.setPpu (s : State) (v : Ppu) : State := { s with ppu := v }
def State.setFb (s : State) (v : PixelBuffer) : State := { s with fb := v }
def State.setCtl (s : State) (v : Controller) : State := { s with ctl := v }
def State.setDrv (s : State) (v : Driver) : State := { s with drv := v }
def State.setCart (s : State) (v : Cart) : State := { s with cart := v }

def State.setA (s : State) (v : Byte) : State := s.setCpu { s.cpu with a := v }
def State.setX (s : State) (v : Byte) : State := s.setCpu { s.cpu with x := v }
def State.setY (s : State) (v : Byte) : State := s.setCpu { s.cpu with y := v }
def State.setSp (s : State) (v : Byte) : State := s.setCpu { s.cpu with sp := v }
def State.setPc (s : State) (v : Word) : State := s.setCpu { s.cpu with pc := v }
def State.setFlags (s : State) (v : Flags) : State := s.setCpu { s.cpu with flags := v }
def State.setResetPending (s : State) (v : Bool) : State := s.setCpu { s.cpu with resetPending := v }
def State.setNmiPending (s : State) (v : Bool) : State := s.setCpu { s.cpu with nmiPending := v }
def State.setServicing (s : State) (v : Bool) : State := s.setCpu { s.cpu with servicing := v }

def State.setCrossed (s : State) (v : Bool) : State := s.setScratch { s.scratch with crossed := v }
def State.setTaken (s : State) (v : Bool) : State := s.setScratch { s.scratch with taken := v }
def State.setDmaStall (s : State) (v : Nat) : State := s.setScratch { s.scratch with dmaStall := v }

end Sys2Proof.Machine
end

