-- ==== Sys2Proof/Machine/Flags.lean ====
section
/-! DEFINITION. The flags: packing (10_state.md R24, R25), N and Z (R27), the additions and comparisons of
42_arithmetic_logic.md R161 and R162, and the results of the shifts of 43_shift_rotate.md. -/

namespace Sys2Proof.Machine

/-- `Pack(b)` (R24). -/
def Flags.pack (f : Flags) (b : Bool) : Byte :=
  bitByte f.n <<< 7 ||| bitByte f.v <<< 6 ||| 1 <<< 5 ||| bitByte b <<< 4 |||
    bitByte f.d <<< 3 ||| bitByte f.i <<< 2 ||| bitByte f.z <<< 1 ||| bitByte f.c

/-- `Unpack(s)`: bits 5 and 4 are ignored (R25). -/
def Flags.unpack (p : Byte) : Flags :=
  { n := p.getLsbD 7, v := p.getLsbD 6, d := p.getLsbD 3, i := p.getLsbD 2, z := p.getLsbD 1, c := p.getLsbD 0 }

/-- `SetNZ(r)` on the flags (R27). -/
def Flags.nz (f : Flags) (r : Byte) : Flags := { f with z := r == 0, n := r.getLsbD 7 }

/-- `SetNZ(r)` (R27). -/
def State.setNZ (s : State) (r : Byte) : State := s.setFlags (s.cpu.flags.nz r)

/-- The C flag written. -/
def State.setC (s : State) (c : Bool) : State := s.setFlags { s.cpu.flags with c := c }

/-- The exact sum of `AddWithCarry` (R161). -/
def adcSum (a m : Byte) (c : Bool) : Nat := a.toNat + m.toNat + bit c

/-- The result byte of `AddWithCarry` (R161). -/
def adcResult (a m : Byte) (c : Bool) : Byte := BitVec.ofNat 8 (adcSum a m c)

/-- The flags of `AddWithCarry` (R161). D is not read (R178). -/
def Flags.adc (f : Flags) (a m : Byte) : Flags :=
  let r := adcResult a m f.c
  Flags.nz { f with c := decide (0xFF < adcSum a m f.c), v := ((a ^^^ r) &&& (m ^^^ r) &&& 0x80) != 0 } r

/-- `AddWithCarry(m)` (R161). -/
def State.addWithCarry (s : State) (m : Byte) : State :=
  (s.setA (adcResult s.cpu.a m s.cpu.flags.c)).setFlags (s.cpu.flags.adc s.cpu.a m)

/-- The flags of `Compare(r, m)` (R162). -/
def Flags.compare (f : Flags) (r m : Byte) : Flags :=
  { f with c := decide (m.toNat ≤ r.toNat), z := r == m, n := (r - m).getLsbD 7 }

/-- `Compare(r, m)` (R162). -/
def State.compare (s : State) (r m : Byte) : State := s.setFlags (s.cpu.flags.compare r m)

/-- The flags of BIT (R171). -/
def Flags.bitTest (f : Flags) (a m : Byte) : Flags :=
  { f with z := (a &&& m) == 0, n := m.getLsbD 7, v := m.getLsbD 6 }

/-- Shift left (R191): the result. The carry out is bit 7 of the operand. -/
def aslResult (m : Byte) : Byte := m <<< 1

/-- Shift right (R192): the result. The carry out is bit 0 of the operand. -/
def lsrResult (m : Byte) : Byte := m >>> 1

/-- Rotate left through carry (R193): the result. The carry out is bit 7 of the operand. -/
def rolResult (m : Byte) (c : Bool) : Byte := m <<< 1 ||| bitByte c

/-- Rotate right through carry (R194): the result. The carry out is bit 0 of the operand. -/
def rorResult (m : Byte) (c : Bool) : Byte := m >>> 1 ||| bitByte c <<< 7

end Sys2Proof.Machine
end

