-- ==== Sys2Proof/Syntax.lean ====
section
/-! DEFINITION. The abstract syntax: one constructor per row of spec/opcode_table.json (30_encoding.md R111), the rows
with operand bytes first and then the others, each part in the table's order. The arguments are the operand bytes as
R100 names them: `i` an immediate, `a` a zero-page address, `l` and `h` the low and high byte of an address, `o` a branch
offset. An undocumented or undefined row whose mnemonic and format another row has carries its opcode byte in its
name. -/

namespace Sys2Proof

/-- An instruction (R100, R104). -/
inductive Instr where
  | oraIndx (a : Byte)
  | sloIndx (a : Byte)
  | nopZp04 (a : Byte)
  | oraZp (a : Byte)
  | aslZp (a : Byte)
  | sloZp (a : Byte)
  | oraImm (i : Byte)
  | nopAbs0C (l h : Byte)
  | oraAbs (l h : Byte)
  | aslAbs (l h : Byte)
  | sloAbs (l h : Byte)
  | bplRel (o : Byte)
  | oraIndy (a : Byte)
  | sloIndy (a : Byte)
  | nopZpx14 (a : Byte)
  | oraZpx (a : Byte)
  | aslZpx (a : Byte)
  | sloZpx (a : Byte)
  | oraAbsy (l h : Byte)
  | sloAbsy (l h : Byte)
  | nopAbsx1C (l h : Byte)
  | oraAbsx (l h : Byte)
  | aslAbsx (l h : Byte)
  | sloAbsx (l h : Byte)
  | jsrAbs (l h : Byte)
  | andIndx (a : Byte)
  | rlaIndx (a : Byte)
  | bitZp (a : Byte)
  | andZp (a : Byte)
  | rolZp (a : Byte)
  | rlaZp (a : Byte)
  | andImm (i : Byte)
  | bitAbs (l h : Byte)
  | andAbs (l h : Byte)
  | rolAbs (l h : Byte)
  | rlaAbs (l h : Byte)
  | bmiRel (o : Byte)
  | andIndy (a : Byte)
  | rlaIndy (a : Byte)
  | nopZpx34 (a : Byte)
  | andZpx (a : Byte)
  | rolZpx (a : Byte)
  | rlaZpx (a : Byte)
  | andAbsy (l h : Byte)
  | rlaAbsy (l h : Byte)
  | nopAbsx3C (l h : Byte)
  | andAbsx (l h : Byte)
  | rolAbsx (l h : Byte)
  | rlaAbsx (l h : Byte)
  | eorIndx (a : Byte)
  | sreIndx (a : Byte)
  | nopZp44 (a : Byte)
  | eorZp (a : Byte)
  | lsrZp (a : Byte)
  | sreZp (a : Byte)
  | eorImm (i : Byte)
  | jmpAbs (l h : Byte)
  | eorAbs (l h : Byte)
  | lsrAbs (l h : Byte)
  | sreAbs (l h : Byte)
  | bvcRel (o : Byte)
  | eorIndy (a : Byte)
  | sreIndy (a : Byte)
  | nopZpx54 (a : Byte)
  | eorZpx (a : Byte)
  | lsrZpx (a : Byte)
  | sreZpx (a : Byte)
  | eorAbsy (l h : Byte)
  | sreAbsy (l h : Byte)
  | nopAbsx5C (l h : Byte)
  | eorAbsx (l h : Byte)
  | lsrAbsx (l h : Byte)
  | sreAbsx (l h : Byte)
  | adcIndx (a : Byte)
  | rraIndx (a : Byte)
  | nopZp64 (a : Byte)
  | adcZp (a : Byte)
  | rorZp (a : Byte)
  | rraZp (a : Byte)
  | adcImm (i : Byte)
  | jmpInd (l h : Byte)
  | adcAbs (l h : Byte)
  | rorAbs (l h : Byte)
  | rraAbs (l h : Byte)
  | bvsRel (o : Byte)
  | adcIndy (a : Byte)
  | rraIndy (a : Byte)
  | nopZpx74 (a : Byte)
  | adcZpx (a : Byte)
  | rorZpx (a : Byte)
  | rraZpx (a : Byte)
  | adcAbsy (l h : Byte)
  | rraAbsy (l h : Byte)
  | nopAbsx7C (l h : Byte)
  | adcAbsx (l h : Byte)
  | rorAbsx (l h : Byte)
  | rraAbsx (l h : Byte)
  | nopImm80 (i : Byte)
  | staIndx (a : Byte)
  | nopImm82 (i : Byte)
  | saxIndx (a : Byte)
  | styZp (a : Byte)
  | staZp (a : Byte)
  | stxZp (a : Byte)
  | saxZp (a : Byte)
  | nopImm89 (i : Byte)
  | styAbs (l h : Byte)
  | staAbs (l h : Byte)
  | stxAbs (l h : Byte)
  | saxAbs (l h : Byte)
  | bccRel (o : Byte)
  | staIndy (a : Byte)
  | styZpx (a : Byte)
  | staZpx (a : Byte)
  | stxZpy (a : Byte)
  | saxZpy (a : Byte)
  | staAbsy (l h : Byte)
  | staAbsx (l h : Byte)
  | ldyImm (i : Byte)
  | ldaIndx (a : Byte)
  | ldxImm (i : Byte)
  | laxIndx (a : Byte)
  | ldyZp (a : Byte)
  | ldaZp (a : Byte)
  | ldxZp (a : Byte)
  | laxZp (a : Byte)
  | ldaImm (i : Byte)
  | ldyAbs (l h : Byte)
  | ldaAbs (l h : Byte)
  | ldxAbs (l h : Byte)
  | laxAbs (l h : Byte)
  | bcsRel (o : Byte)
  | ldaIndy (a : Byte)
  | laxIndy (a : Byte)
  | ldyZpx (a : Byte)
  | ldaZpx (a : Byte)
  | ldxZpy (a : Byte)
  | laxZpy (a : Byte)
  | ldaAbsy (l h : Byte)
  | ldyAbsx (l h : Byte)
  | ldaAbsx (l h : Byte)
  | ldxAbsy (l h : Byte)
  | laxAbsy (l h : Byte)
  | cpyImm (i : Byte)
  | cmpIndx (a : Byte)
  | nopImmC2 (i : Byte)
  | dcpIndx (a : Byte)
  | cpyZp (a : Byte)
  | cmpZp (a : Byte)
  | decZp (a : Byte)
  | dcpZp (a : Byte)
  | cmpImm (i : Byte)
  | cpyAbs (l h : Byte)
  | cmpAbs (l h : Byte)
  | decAbs (l h : Byte)
  | dcpAbs (l h : Byte)
  | bneRel (o : Byte)
  | cmpIndy (a : Byte)
  | dcpIndy (a : Byte)
  | nopZpxD4 (a : Byte)
  | cmpZpx (a : Byte)
  | decZpx (a : Byte)
  | dcpZpx (a : Byte)
  | cmpAbsy (l h : Byte)
  | dcpAbsy (l h : Byte)
  | nopAbsxDC (l h : Byte)
  | cmpAbsx (l h : Byte)
  | decAbsx (l h : Byte)
  | dcpAbsx (l h : Byte)
  | cpxImm (i : Byte)
  | sbcIndx (a : Byte)
  | nopImmE2 (i : Byte)
  | isbIndx (a : Byte)
  | cpxZp (a : Byte)
  | sbcZp (a : Byte)
  | incZp (a : Byte)
  | isbZp (a : Byte)
  | sbcImm (i : Byte)
  | sbcImmEB (i : Byte)
  | cpxAbs (l h : Byte)
  | sbcAbs (l h : Byte)
  | incAbs (l h : Byte)
  | isbAbs (l h : Byte)
  | beqRel (o : Byte)
  | sbcIndy (a : Byte)
  | isbIndy (a : Byte)
  | nopZpxF4 (a : Byte)
  | sbcZpx (a : Byte)
  | incZpx (a : Byte)
  | isbZpx (a : Byte)
  | sbcAbsy (l h : Byte)
  | isbAbsy (l h : Byte)
  | nopAbsxFC (l h : Byte)
  | sbcAbsx (l h : Byte)
  | incAbsx (l h : Byte)
  | isbAbsx (l h : Byte)
  | brk
  | undef02
  | php
  | aslAcc
  | undef0B
  | undef12
  | clc
  | nopImp1A
  | undef22
  | plp
  | rolAcc
  | undef2B
  | undef32
  | sec
  | nopImp3A
  | rti
  | undef42
  | pha
  | lsrAcc
  | undef4B
  | undef52
  | cli
  | nopImp5A
  | rts
  | undef62
  | pla
  | rorAcc
  | undef6B
  | undef72
  | sei
  | nopImp7A
  | dey
  | txa
  | undef8B
  | undef92
  | undef93
  | tya
  | txs
  | undef9B
  | undef9C
  | undef9E
  | undef9F
  | tay
  | tax
  | undefAB
  | undefB2
  | clv
  | tsx
  | undefBB
  | iny
  | dex
  | undefCB
  | undefD2
  | cld
  | nopImpDA
  | inx
  | nop
  | undefF2
  | sed
  | nopImpFA
deriving DecidableEq, Repr

end Sys2Proof
end

