-- ==== Sys2Proof/Decode.lean ====
section
/-! DEFINITION. The encoding (spec/30_encoding.md): the row each instruction stands for, the encoder, the opcode map of
R111 and the decoder, total on any bytes; which opcode bytes execute (R104, R240); and the host's entry into the
decoder. -/

namespace Sys2Proof

/-- The mnemonics of the opcode table; `undefined` stands for the table's "(undefined)". -/
inductive Mnemonic where
  | brk
  | ora
  | undefined
  | slo
  | nop
  | asl
  | php
  | bpl
  | clc
  | jsr
  | and
  | rla
  | bit
  | rol
  | plp
  | bmi
  | sec
  | rti
  | eor
  | sre
  | lsr
  | pha
  | jmp
  | bvc
  | cli
  | rts
  | adc
  | rra
  | ror
  | pla
  | bvs
  | sei
  | sta
  | sax
  | sty
  | stx
  | dey
  | txa
  | bcc
  | tya
  | txs
  | ldy
  | lda
  | ldx
  | lax
  | tay
  | tax
  | bcs
  | clv
  | tsx
  | cpy
  | cmp
  | dcp
  | dec
  | iny
  | dex
  | bne
  | cld
  | cpx
  | sbc
  | isb
  | inc
  | inx
  | beq
  | sed
deriving DecidableEq, Repr

/-- An operand as it is encoded: one of the thirteen formats of R100 with its operand bytes. -/
inductive Operand where
  | imp
  | acc
  | imm (i : Byte)
  | zp (a : Byte)
  | zpx (a : Byte)
  | zpy (a : Byte)
  | abs (l h : Byte)
  | absx (l h : Byte)
  | absy (l h : Byte)
  | ind (l h : Byte)
  | indx (a : Byte)
  | indy (a : Byte)
  | rel (o : Byte)
deriving DecidableEq, Repr

/-- The operand bytes, in address order: low byte first (R100, R102). -/
def Operand.bytes : Operand → List Byte
  | .imp | .acc => []
  | .imm b | .zp b | .zpx b | .zpy b | .indx b | .indy b | .rel b => [b]
  | .abs l h | .absx l h | .absy l h | .ind l h => [l, h]

/-- A row of the opcode table with its operand bytes filled in. -/
structure Row where
  opcode : Byte
  mnemonic : Mnemonic
  operand : Operand
deriving DecidableEq, Repr

/-- The row an instruction stands for (R111). -/
def Instr.row : Instr → Row
  | .brk => ⟨0x00, .brk, .imp⟩
  | .oraIndx a => ⟨0x01, .ora, .indx a⟩
  | .undef02 => ⟨0x02, .undefined, .imp⟩
  | .sloIndx a => ⟨0x03, .slo, .indx a⟩
  | .nopZp04 a => ⟨0x04, .nop, .zp a⟩
  | .oraZp a => ⟨0x05, .ora, .zp a⟩
  | .aslZp a => ⟨0x06, .asl, .zp a⟩
  | .sloZp a => ⟨0x07, .slo, .zp a⟩
  | .php => ⟨0x08, .php, .imp⟩
  | .oraImm i => ⟨0x09, .ora, .imm i⟩
  | .aslAcc => ⟨0x0A, .asl, .acc⟩
  | .undef0B => ⟨0x0B, .undefined, .imp⟩
  | .nopAbs0C l h => ⟨0x0C, .nop, .abs l h⟩
  | .oraAbs l h => ⟨0x0D, .ora, .abs l h⟩
  | .aslAbs l h => ⟨0x0E, .asl, .abs l h⟩
  | .sloAbs l h => ⟨0x0F, .slo, .abs l h⟩
  | .bplRel o => ⟨0x10, .bpl, .rel o⟩
  | .oraIndy a => ⟨0x11, .ora, .indy a⟩
  | .undef12 => ⟨0x12, .undefined, .imp⟩
  | .sloIndy a => ⟨0x13, .slo, .indy a⟩
  | .nopZpx14 a => ⟨0x14, .nop, .zpx a⟩
  | .oraZpx a => ⟨0x15, .ora, .zpx a⟩
  | .aslZpx a => ⟨0x16, .asl, .zpx a⟩
  | .sloZpx a => ⟨0x17, .slo, .zpx a⟩
  | .clc => ⟨0x18, .clc, .imp⟩
  | .oraAbsy l h => ⟨0x19, .ora, .absy l h⟩
  | .nopImp1A => ⟨0x1A, .nop, .imp⟩
  | .sloAbsy l h => ⟨0x1B, .slo, .absy l h⟩
  | .nopAbsx1C l h => ⟨0x1C, .nop, .absx l h⟩
  | .oraAbsx l h => ⟨0x1D, .ora, .absx l h⟩
  | .aslAbsx l h => ⟨0x1E, .asl, .absx l h⟩
  | .sloAbsx l h => ⟨0x1F, .slo, .absx l h⟩
  | .jsrAbs l h => ⟨0x20, .jsr, .abs l h⟩
  | .andIndx a => ⟨0x21, .and, .indx a⟩
  | .undef22 => ⟨0x22, .undefined, .imp⟩
  | .rlaIndx a => ⟨0x23, .rla, .indx a⟩
  | .bitZp a => ⟨0x24, .bit, .zp a⟩
  | .andZp a => ⟨0x25, .and, .zp a⟩
  | .rolZp a => ⟨0x26, .rol, .zp a⟩
  | .rlaZp a => ⟨0x27, .rla, .zp a⟩
  | .plp => ⟨0x28, .plp, .imp⟩
  | .andImm i => ⟨0x29, .and, .imm i⟩
  | .rolAcc => ⟨0x2A, .rol, .acc⟩
  | .undef2B => ⟨0x2B, .undefined, .imp⟩
  | .bitAbs l h => ⟨0x2C, .bit, .abs l h⟩
  | .andAbs l h => ⟨0x2D, .and, .abs l h⟩
  | .rolAbs l h => ⟨0x2E, .rol, .abs l h⟩
  | .rlaAbs l h => ⟨0x2F, .rla, .abs l h⟩
  | .bmiRel o => ⟨0x30, .bmi, .rel o⟩
  | .andIndy a => ⟨0x31, .and, .indy a⟩
  | .undef32 => ⟨0x32, .undefined, .imp⟩
  | .rlaIndy a => ⟨0x33, .rla, .indy a⟩
  | .nopZpx34 a => ⟨0x34, .nop, .zpx a⟩
  | .andZpx a => ⟨0x35, .and, .zpx a⟩
  | .rolZpx a => ⟨0x36, .rol, .zpx a⟩
  | .rlaZpx a => ⟨0x37, .rla, .zpx a⟩
  | .sec => ⟨0x38, .sec, .imp⟩
  | .andAbsy l h => ⟨0x39, .and, .absy l h⟩
  | .nopImp3A => ⟨0x3A, .nop, .imp⟩
  | .rlaAbsy l h => ⟨0x3B, .rla, .absy l h⟩
  | .nopAbsx3C l h => ⟨0x3C, .nop, .absx l h⟩
  | .andAbsx l h => ⟨0x3D, .and, .absx l h⟩
  | .rolAbsx l h => ⟨0x3E, .rol, .absx l h⟩
  | .rlaAbsx l h => ⟨0x3F, .rla, .absx l h⟩
  | .rti => ⟨0x40, .rti, .imp⟩
  | .eorIndx a => ⟨0x41, .eor, .indx a⟩
  | .undef42 => ⟨0x42, .undefined, .imp⟩
  | .sreIndx a => ⟨0x43, .sre, .indx a⟩
  | .nopZp44 a => ⟨0x44, .nop, .zp a⟩
  | .eorZp a => ⟨0x45, .eor, .zp a⟩
  | .lsrZp a => ⟨0x46, .lsr, .zp a⟩
  | .sreZp a => ⟨0x47, .sre, .zp a⟩
  | .pha => ⟨0x48, .pha, .imp⟩
  | .eorImm i => ⟨0x49, .eor, .imm i⟩
  | .lsrAcc => ⟨0x4A, .lsr, .acc⟩
  | .undef4B => ⟨0x4B, .undefined, .imp⟩
  | .jmpAbs l h => ⟨0x4C, .jmp, .abs l h⟩
  | .eorAbs l h => ⟨0x4D, .eor, .abs l h⟩
  | .lsrAbs l h => ⟨0x4E, .lsr, .abs l h⟩
  | .sreAbs l h => ⟨0x4F, .sre, .abs l h⟩
  | .bvcRel o => ⟨0x50, .bvc, .rel o⟩
  | .eorIndy a => ⟨0x51, .eor, .indy a⟩
  | .undef52 => ⟨0x52, .undefined, .imp⟩
  | .sreIndy a => ⟨0x53, .sre, .indy a⟩
  | .nopZpx54 a => ⟨0x54, .nop, .zpx a⟩
  | .eorZpx a => ⟨0x55, .eor, .zpx a⟩
  | .lsrZpx a => ⟨0x56, .lsr, .zpx a⟩
  | .sreZpx a => ⟨0x57, .sre, .zpx a⟩
  | .cli => ⟨0x58, .cli, .imp⟩
  | .eorAbsy l h => ⟨0x59, .eor, .absy l h⟩
  | .nopImp5A => ⟨0x5A, .nop, .imp⟩
  | .sreAbsy l h => ⟨0x5B, .sre, .absy l h⟩
  | .nopAbsx5C l h => ⟨0x5C, .nop, .absx l h⟩
  | .eorAbsx l h => ⟨0x5D, .eor, .absx l h⟩
  | .lsrAbsx l h => ⟨0x5E, .lsr, .absx l h⟩
  | .sreAbsx l h => ⟨0x5F, .sre, .absx l h⟩
  | .rts => ⟨0x60, .rts, .imp⟩
  | .adcIndx a => ⟨0x61, .adc, .indx a⟩
  | .undef62 => ⟨0x62, .undefined, .imp⟩
  | .rraIndx a => ⟨0x63, .rra, .indx a⟩
  | .nopZp64 a => ⟨0x64, .nop, .zp a⟩
  | .adcZp a => ⟨0x65, .adc, .zp a⟩
  | .rorZp a => ⟨0x66, .ror, .zp a⟩
  | .rraZp a => ⟨0x67, .rra, .zp a⟩
  | .pla => ⟨0x68, .pla, .imp⟩
  | .adcImm i => ⟨0x69, .adc, .imm i⟩
  | .rorAcc => ⟨0x6A, .ror, .acc⟩
  | .undef6B => ⟨0x6B, .undefined, .imp⟩
  | .jmpInd l h => ⟨0x6C, .jmp, .ind l h⟩
  | .adcAbs l h => ⟨0x6D, .adc, .abs l h⟩
  | .rorAbs l h => ⟨0x6E, .ror, .abs l h⟩
  | .rraAbs l h => ⟨0x6F, .rra, .abs l h⟩
  | .bvsRel o => ⟨0x70, .bvs, .rel o⟩
  | .adcIndy a => ⟨0x71, .adc, .indy a⟩
  | .undef72 => ⟨0x72, .undefined, .imp⟩
  | .rraIndy a => ⟨0x73, .rra, .indy a⟩
  | .nopZpx74 a => ⟨0x74, .nop, .zpx a⟩
  | .adcZpx a => ⟨0x75, .adc, .zpx a⟩
  | .rorZpx a => ⟨0x76, .ror, .zpx a⟩
  | .rraZpx a => ⟨0x77, .rra, .zpx a⟩
  | .sei => ⟨0x78, .sei, .imp⟩
  | .adcAbsy l h => ⟨0x79, .adc, .absy l h⟩
  | .nopImp7A => ⟨0x7A, .nop, .imp⟩
  | .rraAbsy l h => ⟨0x7B, .rra, .absy l h⟩
  | .nopAbsx7C l h => ⟨0x7C, .nop, .absx l h⟩
  | .adcAbsx l h => ⟨0x7D, .adc, .absx l h⟩
  | .rorAbsx l h => ⟨0x7E, .ror, .absx l h⟩
  | .rraAbsx l h => ⟨0x7F, .rra, .absx l h⟩
  | .nopImm80 i => ⟨0x80, .nop, .imm i⟩
  | .staIndx a => ⟨0x81, .sta, .indx a⟩
  | .nopImm82 i => ⟨0x82, .nop, .imm i⟩
  | .saxIndx a => ⟨0x83, .sax, .indx a⟩
  | .styZp a => ⟨0x84, .sty, .zp a⟩
  | .staZp a => ⟨0x85, .sta, .zp a⟩
  | .stxZp a => ⟨0x86, .stx, .zp a⟩
  | .saxZp a => ⟨0x87, .sax, .zp a⟩
  | .dey => ⟨0x88, .dey, .imp⟩
  | .nopImm89 i => ⟨0x89, .nop, .imm i⟩
  | .txa => ⟨0x8A, .txa, .imp⟩
  | .undef8B => ⟨0x8B, .undefined, .imp⟩
  | .styAbs l h => ⟨0x8C, .sty, .abs l h⟩
  | .staAbs l h => ⟨0x8D, .sta, .abs l h⟩
  | .stxAbs l h => ⟨0x8E, .stx, .abs l h⟩
  | .saxAbs l h => ⟨0x8F, .sax, .abs l h⟩
  | .bccRel o => ⟨0x90, .bcc, .rel o⟩
  | .staIndy a => ⟨0x91, .sta, .indy a⟩
  | .undef92 => ⟨0x92, .undefined, .imp⟩
  | .undef93 => ⟨0x93, .undefined, .imp⟩
  | .styZpx a => ⟨0x94, .sty, .zpx a⟩
  | .staZpx a => ⟨0x95, .sta, .zpx a⟩
  | .stxZpy a => ⟨0x96, .stx, .zpy a⟩
  | .saxZpy a => ⟨0x97, .sax, .zpy a⟩
  | .tya => ⟨0x98, .tya, .imp⟩
  | .staAbsy l h => ⟨0x99, .sta, .absy l h⟩
  | .txs => ⟨0x9A, .txs, .imp⟩
  | .undef9B => ⟨0x9B, .undefined, .imp⟩
  | .undef9C => ⟨0x9C, .undefined, .imp⟩
  | .staAbsx l h => ⟨0x9D, .sta, .absx l h⟩
  | .undef9E => ⟨0x9E, .undefined, .imp⟩
  | .undef9F => ⟨0x9F, .undefined, .imp⟩
  | .ldyImm i => ⟨0xA0, .ldy, .imm i⟩
  | .ldaIndx a => ⟨0xA1, .lda, .indx a⟩
  | .ldxImm i => ⟨0xA2, .ldx, .imm i⟩
  | .laxIndx a => ⟨0xA3, .lax, .indx a⟩
  | .ldyZp a => ⟨0xA4, .ldy, .zp a⟩
  | .ldaZp a => ⟨0xA5, .lda, .zp a⟩
  | .ldxZp a => ⟨0xA6, .ldx, .zp a⟩
  | .laxZp a => ⟨0xA7, .lax, .zp a⟩
  | .tay => ⟨0xA8, .tay, .imp⟩
  | .ldaImm i => ⟨0xA9, .lda, .imm i⟩
  | .tax => ⟨0xAA, .tax, .imp⟩
  | .undefAB => ⟨0xAB, .undefined, .imp⟩
  | .ldyAbs l h => ⟨0xAC, .ldy, .abs l h⟩
  | .ldaAbs l h => ⟨0xAD, .lda, .abs l h⟩
  | .ldxAbs l h => ⟨0xAE, .ldx, .abs l h⟩
  | .laxAbs l h => ⟨0xAF, .lax, .abs l h⟩
  | .bcsRel o => ⟨0xB0, .bcs, .rel o⟩
  | .ldaIndy a => ⟨0xB1, .lda, .indy a⟩
  | .undefB2 => ⟨0xB2, .undefined, .imp⟩
  | .laxIndy a => ⟨0xB3, .lax, .indy a⟩
  | .ldyZpx a => ⟨0xB4, .ldy, .zpx a⟩
  | .ldaZpx a => ⟨0xB5, .lda, .zpx a⟩
  | .ldxZpy a => ⟨0xB6, .ldx, .zpy a⟩
  | .laxZpy a => ⟨0xB7, .lax, .zpy a⟩
  | .clv => ⟨0xB8, .clv, .imp⟩
  | .ldaAbsy l h => ⟨0xB9, .lda, .absy l h⟩
  | .tsx => ⟨0xBA, .tsx, .imp⟩
  | .undefBB => ⟨0xBB, .undefined, .imp⟩
  | .ldyAbsx l h => ⟨0xBC, .ldy, .absx l h⟩
  | .ldaAbsx l h => ⟨0xBD, .lda, .absx l h⟩
  | .ldxAbsy l h => ⟨0xBE, .ldx, .absy l h⟩
  | .laxAbsy l h => ⟨0xBF, .lax, .absy l h⟩
  | .cpyImm i => ⟨0xC0, .cpy, .imm i⟩
  | .cmpIndx a => ⟨0xC1, .cmp, .indx a⟩
  | .nopImmC2 i => ⟨0xC2, .nop, .imm i⟩
  | .dcpIndx a => ⟨0xC3, .dcp, .indx a⟩
  | .cpyZp a => ⟨0xC4, .cpy, .zp a⟩
  | .cmpZp a => ⟨0xC5, .cmp, .zp a⟩
  | .decZp a => ⟨0xC6, .dec, .zp a⟩
  | .dcpZp a => ⟨0xC7, .dcp, .zp a⟩
  | .iny => ⟨0xC8, .iny, .imp⟩
  | .cmpImm i => ⟨0xC9, .cmp, .imm i⟩
  | .dex => ⟨0xCA, .dex, .imp⟩
  | .undefCB => ⟨0xCB, .undefined, .imp⟩
  | .cpyAbs l h => ⟨0xCC, .cpy, .abs l h⟩
  | .cmpAbs l h => ⟨0xCD, .cmp, .abs l h⟩
  | .decAbs l h => ⟨0xCE, .dec, .abs l h⟩
  | .dcpAbs l h => ⟨0xCF, .dcp, .abs l h⟩
  | .bneRel o => ⟨0xD0, .bne, .rel o⟩
  | .cmpIndy a => ⟨0xD1, .cmp, .indy a⟩
  | .undefD2 => ⟨0xD2, .undefined, .imp⟩
  | .dcpIndy a => ⟨0xD3, .dcp, .indy a⟩
  | .nopZpxD4 a => ⟨0xD4, .nop, .zpx a⟩
  | .cmpZpx a => ⟨0xD5, .cmp, .zpx a⟩
  | .decZpx a => ⟨0xD6, .dec, .zpx a⟩
  | .dcpZpx a => ⟨0xD7, .dcp, .zpx a⟩
  | .cld => ⟨0xD8, .cld, .imp⟩
  | .cmpAbsy l h => ⟨0xD9, .cmp, .absy l h⟩
  | .nopImpDA => ⟨0xDA, .nop, .imp⟩
  | .dcpAbsy l h => ⟨0xDB, .dcp, .absy l h⟩
  | .nopAbsxDC l h => ⟨0xDC, .nop, .absx l h⟩
  | .cmpAbsx l h => ⟨0xDD, .cmp, .absx l h⟩
  | .decAbsx l h => ⟨0xDE, .dec, .absx l h⟩
  | .dcpAbsx l h => ⟨0xDF, .dcp, .absx l h⟩
  | .cpxImm i => ⟨0xE0, .cpx, .imm i⟩
  | .sbcIndx a => ⟨0xE1, .sbc, .indx a⟩
  | .nopImmE2 i => ⟨0xE2, .nop, .imm i⟩
  | .isbIndx a => ⟨0xE3, .isb, .indx a⟩
  | .cpxZp a => ⟨0xE4, .cpx, .zp a⟩
  | .sbcZp a => ⟨0xE5, .sbc, .zp a⟩
  | .incZp a => ⟨0xE6, .inc, .zp a⟩
  | .isbZp a => ⟨0xE7, .isb, .zp a⟩
  | .inx => ⟨0xE8, .inx, .imp⟩
  | .sbcImm i => ⟨0xE9, .sbc, .imm i⟩
  | .nop => ⟨0xEA, .nop, .imp⟩
  | .sbcImmEB i => ⟨0xEB, .sbc, .imm i⟩
  | .cpxAbs l h => ⟨0xEC, .cpx, .abs l h⟩
  | .sbcAbs l h => ⟨0xED, .sbc, .abs l h⟩
  | .incAbs l h => ⟨0xEE, .inc, .abs l h⟩
  | .isbAbs l h => ⟨0xEF, .isb, .abs l h⟩
  | .beqRel o => ⟨0xF0, .beq, .rel o⟩
  | .sbcIndy a => ⟨0xF1, .sbc, .indy a⟩
  | .undefF2 => ⟨0xF2, .undefined, .imp⟩
  | .isbIndy a => ⟨0xF3, .isb, .indy a⟩
  | .nopZpxF4 a => ⟨0xF4, .nop, .zpx a⟩
  | .sbcZpx a => ⟨0xF5, .sbc, .zpx a⟩
  | .incZpx a => ⟨0xF6, .inc, .zpx a⟩
  | .isbZpx a => ⟨0xF7, .isb, .zpx a⟩
  | .sed => ⟨0xF8, .sed, .imp⟩
  | .sbcAbsy l h => ⟨0xF9, .sbc, .absy l h⟩
  | .nopImpFA => ⟨0xFA, .nop, .imp⟩
  | .isbAbsy l h => ⟨0xFB, .isb, .absy l h⟩
  | .nopAbsxFC l h => ⟨0xFC, .nop, .absx l h⟩
  | .sbcAbsx l h => ⟨0xFD, .sbc, .absx l h⟩
  | .incAbsx l h => ⟨0xFE, .inc, .absx l h⟩
  | .isbAbsx l h => ⟨0xFF, .isb, .absx l h⟩

/-- The opcode byte. -/
def Instr.opcode (i : Instr) : Byte := i.row.opcode

/-- The mnemonic. -/
def Instr.mnemonic (i : Instr) : Mnemonic := i.row.mnemonic

/-- The operand with its bytes. -/
def Instr.operand (i : Instr) : Operand := i.row.operand

/-- The words of an instruction: the opcode byte and its operand bytes (R100). -/
def encode (i : Instr) : List Byte := i.opcode :: i.operand.bytes

/-- A cell of the opcode map: an instruction with no, one or two operand bytes (R100). -/
inductive MapCell where
  | op0 (i : Instr)
  | op1 (f : Byte → Instr)
  | op2 (f : Byte → Byte → Instr)

/-- Row 0x of the opcode map (R111). -/
def mapRow0 : Vector MapCell 16 := #v[
  .op0 .brk, .op1 .oraIndx, .op0 .undef02, .op1 .sloIndx,
  .op1 .nopZp04, .op1 .oraZp, .op1 .aslZp, .op1 .sloZp,
  .op0 .php, .op1 .oraImm, .op0 .aslAcc, .op0 .undef0B,
  .op2 .nopAbs0C, .op2 .oraAbs, .op2 .aslAbs, .op2 .sloAbs]

/-- Row 1x of the opcode map (R111). -/
def mapRow1 : Vector MapCell 16 := #v[
  .op1 .bplRel, .op1 .oraIndy, .op0 .undef12, .op1 .sloIndy,
  .op1 .nopZpx14, .op1 .oraZpx, .op1 .aslZpx, .op1 .sloZpx,
  .op0 .clc, .op2 .oraAbsy, .op0 .nopImp1A, .op2 .sloAbsy,
  .op2 .nopAbsx1C, .op2 .oraAbsx, .op2 .aslAbsx, .op2 .sloAbsx]

/-- Row 2x of the opcode map (R111). -/
def mapRow2 : Vector MapCell 16 := #v[
  .op2 .jsrAbs, .op1 .andIndx, .op0 .undef22, .op1 .rlaIndx,
  .op1 .bitZp, .op1 .andZp, .op1 .rolZp, .op1 .rlaZp,
  .op0 .plp, .op1 .andImm, .op0 .rolAcc, .op0 .undef2B,
  .op2 .bitAbs, .op2 .andAbs, .op2 .rolAbs, .op2 .rlaAbs]

/-- Row 3x of the opcode map (R111). -/
def mapRow3 : Vector MapCell 16 := #v[
  .op1 .bmiRel, .op1 .andIndy, .op0 .undef32, .op1 .rlaIndy,
  .op1 .nopZpx34, .op1 .andZpx, .op1 .rolZpx, .op1 .rlaZpx,
  .op0 .sec, .op2 .andAbsy, .op0 .nopImp3A, .op2 .rlaAbsy,
  .op2 .nopAbsx3C, .op2 .andAbsx, .op2 .rolAbsx, .op2 .rlaAbsx]

/-- Row 4x of the opcode map (R111). -/
def mapRow4 : Vector MapCell 16 := #v[
  .op0 .rti, .op1 .eorIndx, .op0 .undef42, .op1 .sreIndx,
  .op1 .nopZp44, .op1 .eorZp, .op1 .lsrZp, .op1 .sreZp,
  .op0 .pha, .op1 .eorImm, .op0 .lsrAcc, .op0 .undef4B,
  .op2 .jmpAbs, .op2 .eorAbs, .op2 .lsrAbs, .op2 .sreAbs]

/-- Row 5x of the opcode map (R111). -/
def mapRow5 : Vector MapCell 16 := #v[
  .op1 .bvcRel, .op1 .eorIndy, .op0 .undef52, .op1 .sreIndy,
  .op1 .nopZpx54, .op1 .eorZpx, .op1 .lsrZpx, .op1 .sreZpx,
  .op0 .cli, .op2 .eorAbsy, .op0 .nopImp5A, .op2 .sreAbsy,
  .op2 .nopAbsx5C, .op2 .eorAbsx, .op2 .lsrAbsx, .op2 .sreAbsx]

/-- Row 6x of the opcode map (R111). -/
def mapRow6 : Vector MapCell 16 := #v[
  .op0 .rts, .op1 .adcIndx, .op0 .undef62, .op1 .rraIndx,
  .op1 .nopZp64, .op1 .adcZp, .op1 .rorZp, .op1 .rraZp,
  .op0 .pla, .op1 .adcImm, .op0 .rorAcc, .op0 .undef6B,
  .op2 .jmpInd, .op2 .adcAbs, .op2 .rorAbs, .op2 .rraAbs]

/-- Row 7x of the opcode map (R111). -/
def mapRow7 : Vector MapCell 16 := #v[
  .op1 .bvsRel, .op1 .adcIndy, .op0 .undef72, .op1 .rraIndy,
  .op1 .nopZpx74, .op1 .adcZpx, .op1 .rorZpx, .op1 .rraZpx,
  .op0 .sei, .op2 .adcAbsy, .op0 .nopImp7A, .op2 .rraAbsy,
  .op2 .nopAbsx7C, .op2 .adcAbsx, .op2 .rorAbsx, .op2 .rraAbsx]

/-- Row 8x of the opcode map (R111). -/
def mapRow8 : Vector MapCell 16 := #v[
  .op1 .nopImm80, .op1 .staIndx, .op1 .nopImm82, .op1 .saxIndx,
  .op1 .styZp, .op1 .staZp, .op1 .stxZp, .op1 .saxZp,
  .op0 .dey, .op1 .nopImm89, .op0 .txa, .op0 .undef8B,
  .op2 .styAbs, .op2 .staAbs, .op2 .stxAbs, .op2 .saxAbs]

/-- Row 9x of the opcode map (R111). -/
def mapRow9 : Vector MapCell 16 := #v[
  .op1 .bccRel, .op1 .staIndy, .op0 .undef92, .op0 .undef93,
  .op1 .styZpx, .op1 .staZpx, .op1 .stxZpy, .op1 .saxZpy,
  .op0 .tya, .op2 .staAbsy, .op0 .txs, .op0 .undef9B,
  .op0 .undef9C, .op2 .staAbsx, .op0 .undef9E, .op0 .undef9F]

/-- Row Ax of the opcode map (R111). -/
def mapRowA : Vector MapCell 16 := #v[
  .op1 .ldyImm, .op1 .ldaIndx, .op1 .ldxImm, .op1 .laxIndx,
  .op1 .ldyZp, .op1 .ldaZp, .op1 .ldxZp, .op1 .laxZp,
  .op0 .tay, .op1 .ldaImm, .op0 .tax, .op0 .undefAB,
  .op2 .ldyAbs, .op2 .ldaAbs, .op2 .ldxAbs, .op2 .laxAbs]

/-- Row Bx of the opcode map (R111). -/
def mapRowB : Vector MapCell 16 := #v[
  .op1 .bcsRel, .op1 .ldaIndy, .op0 .undefB2, .op1 .laxIndy,
  .op1 .ldyZpx, .op1 .ldaZpx, .op1 .ldxZpy, .op1 .laxZpy,
  .op0 .clv, .op2 .ldaAbsy, .op0 .tsx, .op0 .undefBB,
  .op2 .ldyAbsx, .op2 .ldaAbsx, .op2 .ldxAbsy, .op2 .laxAbsy]

/-- Row Cx of the opcode map (R111). -/
def mapRowC : Vector MapCell 16 := #v[
  .op1 .cpyImm, .op1 .cmpIndx, .op1 .nopImmC2, .op1 .dcpIndx,
  .op1 .cpyZp, .op1 .cmpZp, .op1 .decZp, .op1 .dcpZp,
  .op0 .iny, .op1 .cmpImm, .op0 .dex, .op0 .undefCB,
  .op2 .cpyAbs, .op2 .cmpAbs, .op2 .decAbs, .op2 .dcpAbs]

/-- Row Dx of the opcode map (R111). -/
def mapRowD : Vector MapCell 16 := #v[
  .op1 .bneRel, .op1 .cmpIndy, .op0 .undefD2, .op1 .dcpIndy,
  .op1 .nopZpxD4, .op1 .cmpZpx, .op1 .decZpx, .op1 .dcpZpx,
  .op0 .cld, .op2 .cmpAbsy, .op0 .nopImpDA, .op2 .dcpAbsy,
  .op2 .nopAbsxDC, .op2 .cmpAbsx, .op2 .decAbsx, .op2 .dcpAbsx]

/-- Row Ex of the opcode map (R111). -/
def mapRowE : Vector MapCell 16 := #v[
  .op1 .cpxImm, .op1 .sbcIndx, .op1 .nopImmE2, .op1 .isbIndx,
  .op1 .cpxZp, .op1 .sbcZp, .op1 .incZp, .op1 .isbZp,
  .op0 .inx, .op1 .sbcImm, .op0 .nop, .op1 .sbcImmEB,
  .op2 .cpxAbs, .op2 .sbcAbs, .op2 .incAbs, .op2 .isbAbs]

/-- Row Fx of the opcode map (R111). -/
def mapRowF : Vector MapCell 16 := #v[
  .op1 .beqRel, .op1 .sbcIndy, .op0 .undefF2, .op1 .isbIndy,
  .op1 .nopZpxF4, .op1 .sbcZpx, .op1 .incZpx, .op1 .isbZpx,
  .op0 .sed, .op2 .sbcAbsy, .op0 .nopImpFA, .op2 .isbAbsy,
  .op2 .nopAbsxFC, .op2 .sbcAbsx, .op2 .incAbsx, .op2 .isbAbsx]

/-- The opcode map: row = high nibble, column = low nibble (R111). -/
def opcodeMap : Vector (Vector MapCell 16) 16 := #v[
  mapRow0, mapRow1, mapRow2, mapRow3, mapRow4, mapRow5, mapRow6, mapRow7,
  mapRow8, mapRow9, mapRowA, mapRowB, mapRowC, mapRowD, mapRowE, mapRowF]

/-- The cell of an opcode byte: decoding looks the whole byte up (R101, R104). -/
def mapCell (op : Byte) : MapCell :=
  (opcodeMap[op.toNat / 16]'(by omega))[op.toNat % 16]'(by omega)

/-- How many operand bytes follow an opcode byte: a function of the opcode alone (R103). -/
def operandBytes (op : Byte) : Nat :=
  match mapCell op with
  | .op0 _ => 0
  | .op1 _ => 1
  | .op2 _ => 2

/-- Why a list of bytes does not begin with an instruction. -/
inductive DecodeError where
  /-- The list is empty. -/
  | noOpcode
  /-- The list ends before the operand bytes of its opcode. -/
  | truncatedOperand (op : Byte)
deriving DecidableEq, Repr

/-- The instruction a list of bytes begins with, and the bytes after it. Every opcode byte has a row (R104); an
undefined one reads as its "(undefined)" row, which is fatal when it runs (R106). -/
def decode : List Byte → Except DecodeError (Instr × List Byte)
  | [] => .error .noOpcode
  | op :: rest =>
    match mapCell op, rest with
    | .op0 i, rest => .ok (i, rest)
    | .op1 f, b :: rest => .ok (f b, rest)
    | .op2 f, l :: h :: rest => .ok (f l h, rest)
    | .op1 _, [] => .error (.truncatedOperand op)
    | .op2 _, _ => .error (.truncatedOperand op)

/-- The 25 bytes that are undefined under every setting (R106). -/
def undefinedBytes : List Byte := [
  0x02, 0x0B, 0x12, 0x22, 0x2B, 0x32, 0x42, 0x4B, 0x52, 0x62, 0x6B, 0x72, 0x8B, 0x92, 0x93, 0x9B, 0x9C, 0x9E, 0x9F, 0xAB, 0xB2, 0xBB, 0xCB, 0xD2, 0xF2]

/-- The 80 undocumented bytes, by their rules R241-R250. -/
def undocumentedBytes : List Byte :=
  [0xA3, 0xA7, 0xAF, 0xB3, 0xB7, 0xBF] ++
  [0x83, 0x87, 0x8F, 0x97] ++
  [0xEB] ++
  [0xC3, 0xC7, 0xCF, 0xD3, 0xD7, 0xDB, 0xDF] ++
  [0xE3, 0xE7, 0xEF, 0xF3, 0xF7, 0xFB, 0xFF] ++
  [0x03, 0x07, 0x0F, 0x13, 0x17, 0x1B, 0x1F] ++
  [0x23, 0x27, 0x2F, 0x33, 0x37, 0x3B, 0x3F] ++
  [0x43, 0x47, 0x4F, 0x53, 0x57, 0x5B, 0x5F] ++
  [0x63, 0x67, 0x6F, 0x73, 0x77, 0x7B, 0x7F] ++
  [0x04, 0x0C, 0x14, 0x1A, 0x1C, 0x34, 0x3A, 0x3C, 0x44, 0x54, 0x5A, 0x5C, 0x64, 0x74, 0x7A, 0x7C, 0x80, 0x82, 0x89, 0xC2, 0xD4, 0xDA, 0xDC, 0xE2, 0xF4, 0xFA, 0xFC]

/-- `Enabled(op)` of R332: the documented bytes, and the undocumented ones in `UNDOC_ENABLED` (R104, R240). -/
def Config.enabled (cfg : Config) (op : Byte) : Bool :=
  !undefinedBytes.contains op && (!undocumentedBytes.contains op || cfg.undocEnabled.contains op)

/-- The setting `NESTEST` of `UNDOC_ENABLED`: all 80 (R240). -/
def Config.nestest : Config := { Config.default with undocEnabled := undocumentedBytes }

/-- Byte `k` of a number read little-endian: the first byte of an instruction is its least significant one. -/
def tableByte (w k : Nat) : Byte := BitVec.ofNat 8 (w / 256 ^ k)

/-- The three bytes an instruction can have, from its bits numbered as the opcode table numbers them; every bit above
`nbits` is 0. -/
def tableBytes (nbits w : Nat) : List Byte :=
  let v := w % 2 ^ nbits
  [tableByte v 0, tableByte v 1, tableByte v 2]

/-- The instruction the decoder reads from an instruction's bits. -/
def decodeTableWord (nbits w : Nat) : Option Instr :=
  match decode (tableBytes nbits w) with
  | .ok (i, _) => some i
  | .error _ => none

end Sys2Proof
end

