-- ==== Sys2Proof/Machine/Result.lean ====
section
/-! DEFINITION. What an action of the machine answers: a value and the state after it, or a raise with the state it
leaves (00_scope.md R12). Statements run in the order written (R13): `andThen` is that order. -/

namespace Sys2Proof.Machine

/-- The answer of an action on the state. -/
inductive Res (α : Type) where
  | ok (a : α) (s : State)
  | raise (k : FaultKind) (s : State)
deriving DecidableEq, Repr

/-- Run the second action on the first one's value and state; a raise ends both (R12). -/
def Res.andThen {α β : Type} (r : Res α) (f : α → State → Res β) : Res β :=
  match r with
  | .ok a s => f a s
  | .raise k s => .raise k s

/-- Run an action for each element in order (R13's `for`). -/
def forEach {α : Type} : List α → (α → State → Res Unit) → State → Res Unit
  | [], _, s => .ok () s
  | x :: xs, f, s => (f x s).andThen fun _ t => forEach xs f t

/-- The state a raise halts the machine in (R12, R331). -/
def State.halt (s : State) (k : FaultKind) : State := { s with fault := some k }

/-- An action as an outcome: a raise is the fault `Fatal(kind, info)` with the halted state (log 4). -/
def Res.toOutcome (r : Res Unit) : Outcome :=
  match r with
  | .ok _ s => .next s
  | .raise k s => .fault (.fatal k (s.halt k))

end Sys2Proof.Machine
end

