-- ==== Sys2Proof/Machine/Pad.lean ====
section
/-! DEFINITION. The controller port (52_controller_dma_driver.md R310-R314). -/

namespace Sys2Proof.Machine

/-- A button's bit number (R44). -/
def Button.number : Button → Nat
  | .a => 0
  | .b => 1
  | .select => 2
  | .start => 3
  | .up => 4
  | .down => 5
  | .left => 6
  | .right => 7

/-- The live buttons after a press or release (R310). -/
def Controller.withButton (c : Controller) (button : Button) (pressed : Bool) : Byte :=
  let mask : Byte := 1 <<< button.number
  if pressed then c.buttons ||| mask else c.buttons &&& ~~~mask

/-- `Update(button, pressed)` (R310). -/
def Controller.update (c : Controller) (button : Button) (pressed : Bool) : Controller :=
  let live := c.withButton button pressed
  { c with buttons := live, shift := if c.strobe then live else c.shift }

/-- What `CtlRead()` leaves (R311). -/
def Controller.shifted (c : Controller) : Controller :=
  if c.strobe then c else { c with shift := c.shift >>> 1 }

/-- `CtlRead()` (R311). -/
def ctlRead (s : State) : Res Byte := .ok (s.ctl.shift &&& 1) (s.setCtl s.ctl.shifted)

/-- What `CtlWrite(d)` leaves (R312). -/
def Controller.write (c : Controller) (d : Byte) : Controller :=
  if d.getLsbD 0 then { c with strobe := true, shift := c.buttons } else { c with strobe := false }

/-- `CtlWrite(d)` (R312). -/
def ctlWrite (d : Byte) (s : State) : Res Unit := .ok () (s.setCtl (s.ctl.write d))

end Sys2Proof.Machine
end

