-- ==== Sys2Proof/Machine/Memory.lean ====
section
/-! DEFINITION. Byte memories in canonical form: reading, writing and the form itself (log 3). -/

namespace Sys2Proof.Machine

/-- What an unlisted address reads as: DESIGN CHOICE 0, the setting `INIT = Zero` of R360's draws (log 3). -/
def Memory.blank : Byte := 0

/-- The byte at `k`. -/
def Memory.read : Memory → Nat → Byte
  | [], _ => Memory.blank
  | (j, b) :: rest, k => if j = k then b else Memory.read rest k

/-- The memory with nothing listed at `k`. -/
def Memory.remove (m : Memory) (k : Nat) : Memory := m.filter fun c => decide (c.1 ≠ k)

/-- The memory with `b` listed at `k`, before the first higher address. -/
def Memory.place : Memory → Nat → Byte → Memory
  | [], k, b => [(k, b)]
  | (j, c) :: rest, k, b => if k < j then (k, b) :: (j, c) :: rest else (j, c) :: Memory.place rest k b

/-- The memory after `b` is written at `k`; writing the blank byte removes the entry. -/
def Memory.write (m : Memory) (k : Nat) (b : Byte) : Memory :=
  if b = Memory.blank then m.remove k else (m.remove k).place k b

/-- The canonical form: addresses strictly rising and no entry equal to the blank byte. -/
abbrev Memory.wf (m : Memory) : Prop :=
  m.Pairwise (fun c d => c.1 < d.1) ∧ ∀ c ∈ m, c.2 ≠ Memory.blank

/-- Every listed address is below `n`. -/
abbrev Memory.below (m : Memory) (n : Nat) : Prop := ∀ c ∈ m, c.1 < n

end Sys2Proof.Machine
end

