-- ==== Sys2Proof/Machine/Cartridge.lean ====
section
/-! DEFINITION. The six functions of the cartridge (20_memory.md R84): the default NROM model of R85-R88, and the free
values of a cartridge other than the default (log 8). -/

namespace Sys2Proof.Machine

/-- What a read of a cartridge other than the default answers, or the fault it raises (R84). -/
def externalRead (answer : Option Byte) (k : FaultKind) (s : State) : Res Byte :=
  match answer with
  | some b => .ok b s
  | none => .raise k s

/-- What a write to a cartridge other than the default does (R84). -/
def externalWrite (answer : Option Nat) (k : FaultKind) (s : State) : Res Unit :=
  match answer with
  | some e => .ok () (s.setCart { s.cart with external := e })
  | none => .raise k s

/-- The bytes of the program ROM: `PRG_BANKS * 0x4000` (R85). -/
def prgSize (cfg : Config) : Nat :=
  match cfg.prgBanks with
  | .one => 0x4000
  | .two => 0x8000

/-- Where address `a` of 0x8000-0xFFFF lies in the program ROM (R85). -/
def prgOffset (cfg : Config) (a : Word) : Nat := (a.toNat - 0x8000) % prgSize cfg

/-- `CART.cpu_read(a)` for `a` in 0x4020-0xFFFF (R84, R85, R88). -/
def cartCpuRead (a : Word) (s : State) : Res Byte :=
  match s.cfg.cart with
  | .nrom =>
    if 0x8000 ≤ a.toNat then .ok (s.cart.prg.read (prgOffset s.cfg a)) s
    else .raise (.unmappedCpuAddress a .read) s
  | .external => externalRead (Config.cartCpuRead s.cart.external a) (.unmappedCpuAddress a .read) s

/-- `CART.cpu_write(a, v)` for `a` in 0x4020-0xFFFF (R84, R85, R88). -/
def cartCpuWrite (a : Word) (v : Byte) (s : State) : Res Unit :=
  match s.cfg.cart with
  | .nrom =>
    if 0x8000 ≤ a.toNat then
      match s.cfg.prgWrite with
      | .fatal => .raise (.unmappedCpuAddress a .write) s
      | .ignore => .ok () s
    else .raise (.unmappedCpuAddress a .write) s
  | .external => externalWrite (Config.cartCpuWrite s.cart.external a v) (.unmappedCpuAddress a .write) s

/-- `CART.chr_read(a)` for `a` in 0x0000-0x1FFF (R84, R86). -/
def cartChrRead (a : Word) (s : State) : Res Byte :=
  match s.cfg.cart with
  | .nrom => .ok (s.cart.chr.read a.toNat) s
  | .external => externalRead (Config.cartChrRead s.cart.external a) (.unmappedPpuAddress a .read) s

/-- `CART.chr_write(a, v)` for `a` in 0x0000-0x1FFF (R84, R86). -/
def cartChrWrite (a : Word) (v : Byte) (s : State) : Res Unit :=
  match s.cfg.cart with
  | .nrom =>
    match s.cfg.chrWrite with
    | .fatal => .raise (.unmappedPpuAddress a .write) s
    | .ignore => .ok () s
    | .ram => .ok () (s.setCart { s.cart with chr := s.cart.chr.write a.toNat v })
  | .external => externalWrite (Config.cartChrWrite s.cart.external a v) (.unmappedPpuAddress a .write) s

/-- The cell of `ciram` a nametable address reaches (R87). -/
def ntCell (m : Mirroring) (a : Word) : Nat :=
  let o := (a.toNat - 0x2000) % 0x1000
  let q := o / 0x400
  let off := o % 0x400
  match m with
  | .vertical => (q % 2) * 0x400 + off
  | .horizontal => (q / 2) * 0x400 + off

/-- `CART.nt_read(a)` for `a` in 0x2000-0x3EFF (R84, R87). -/
def cartNtRead (a : Word) (s : State) : Res Byte :=
  match s.cfg.cart with
  | .nrom => .ok (s.cart.ciram.read (ntCell s.cfg.mirroring a)) s
  | .external => externalRead (Config.cartNtRead s.cart.external a) (.unmappedPpuAddress a .read) s

/-- `CART.nt_write(a, v)` for `a` in 0x2000-0x3EFF (R84, R87). -/
def cartNtWrite (a : Word) (v : Byte) (s : State) : Res Unit :=
  match s.cfg.cart with
  | .nrom => .ok () (s.setCart { s.cart with ciram := s.cart.ciram.write (ntCell s.cfg.mirroring a) v })
  | .external => externalWrite (Config.cartNtWrite s.cart.external a v) (.unmappedPpuAddress a .write) s

end Sys2Proof.Machine
end

