-- ==== Sys2Proof/Machine/Ppu.lean ====
section
/-! DEFINITION. The PPU bus (20_memory.md R77-R83) and the eight PPU registers with their side effects
(50_ppu_registers.md). -/

namespace Sys2Proof.Machine

/-- The cell of palette RAM a palette address reaches (R81). -/
def palIndex (a : Nat) : Nat :=
  let p := a % 0x20
  if p = 0x10 ∨ p = 0x14 ∨ p = 0x18 ∨ p = 0x1C then p - 0x10 else p

/-- An access below 0x4000 of the PPU bus (R78, R83). -/
def ppuReadLow (a : Word) (s : State) : Res Byte :=
  if a.toNat ≤ 0x1FFF then cartChrRead a s
  else if a.toNat ≤ 0x3EFF then cartNtRead a s
  else .ok (s.ppu.pal.read (palIndex a.toNat)) s

/-- `PpuRead(a)` (R83). -/
def ppuRead (a : Word) (s : State) : Res Byte :=
  if 0x4000 ≤ a.toNat then
    match s.cfg.ppuAddrHigh with
    | .fatal => .raise (.unmappedPpuAddress a .read) s
    | .mask14 => ppuReadLow (a &&& 0x3FFF) s
  else ppuReadLow a s

/-- A write below 0x4000 of the PPU bus (R78, R83). -/
def ppuWriteLow (a : Word) (v : Byte) (s : State) : Res Unit :=
  if a.toNat ≤ 0x1FFF then cartChrWrite a v s
  else if a.toNat ≤ 0x3EFF then cartNtWrite a v s
  else .ok () (s.setPpu { s.ppu with pal := s.ppu.pal.write (palIndex a.toNat) v })

/-- `PpuWrite(a, v)` (R83). -/
def ppuWrite (a : Word) (v : Byte) (s : State) : Res Unit :=
  if 0x4000 ≤ a.toNat then
    match s.cfg.ppuAddrHigh with
    | .fatal => .raise (.unmappedPpuAddress a .write) s
    | .mask14 => ppuWriteLow (a &&& 0x3FFF) v s
  else ppuWriteLow a v s

/-- The PPU's registers 0-7 (R63). -/
inductive PpuReg where
  | control
  | mask
  | status
  | oamAddress
  | oamData
  | scroll
  | address
  | data
deriving DecidableEq, Repr

/-- The register a CPU address in 0x2000-0x3FFF selects: index `a & 7` (R63). -/
def ppuReg (a : Word) : PpuReg :=
  match a.toNat % 8 with
  | 0 => .control
  | 1 => .mask
  | 2 => .status
  | 3 => .oamAddress
  | 4 => .oamData
  | 5 => .scroll
  | 6 => .address
  | _ => .data

/-- Control write (R261). -/
def Ppu.writeControl (p : Ppu) (d : Byte) : Ppu :=
  { p with ctrl := d, t := (p.t &&& ~~~0x0C00#15) ||| ((d.setWidth 15 &&& 0x03) <<< 10) }

/-- Mask write (R262). -/
def Ppu.writeMask (p : Ppu) (d : Byte) : Ppu := { p with mask := d }

/-- What a Status read returns (R263, R37). -/
def Ppu.status (p : Ppu) : Byte := bitByte p.vblank <<< 7

/-- What a Status read leaves (R263). -/
def Ppu.afterStatus (p : Ppu) : Ppu := { p with vblank := false, w := false }

/-- OAM-address write (R265). -/
def Ppu.writeOamAddress (p : Ppu) (d : Byte) : Ppu := { p with oamAddr := d }

/-- OAM-data write: at the cursor, which then advances mod 256 (R266). -/
def Ppu.writeOamData (p : Ppu) (d : Byte) : Ppu :=
  { p with oam := p.oam.write p.oamAddr.toNat d, oamAddr := p.oamAddr + 1 }

/-- OAM-data read (R267). -/
def Ppu.oamData (p : Ppu) : Byte := p.oam.read p.oamAddr.toNat

/-- Scroll write (R268). -/
def Ppu.writeScroll (p : Ppu) (d : Byte) : Ppu :=
  if p.w then
    { p with
      t := (p.t &&& ~~~0x73E0#15) ||| ((d.setWidth 15 &&& 0x07) <<< 12) ||| ((d.setWidth 15 >>> 3) <<< 5)
      w := false }
  else
    { p with
      t := (p.t &&& ~~~0x001F#15) ||| (d.setWidth 15 >>> 3)
      x := d.setWidth 3
      w := true }

/-- Address write (R269). -/
def Ppu.writeAddress (p : Ppu) (d : Byte) : Ppu :=
  if p.w then
    let t := (p.t &&& 0x7F00) ||| d.setWidth 15
    { p with t := t, v := t, w := false }
  else
    { p with t := (p.t &&& 0x00FF) ||| ((d.setWidth 15 &&& 0x3F) <<< 8), w := true }

/-- The VRAM address after a Data access: mod 0x8000 (R273). -/
def Ppu.incremented (p : Ppu) : BitVec 15 := p.v + (if p.ctrl.getLsbD 2 then 32 else 1)

/-- `VramIncrement()` (R273). -/
def Ppu.increment (p : Ppu) : Ppu := { p with v := p.incremented }

/-- v as a PPU bus address (R39). -/
def Ppu.busAddress (p : Ppu) : Word := p.v.setWidth 16

/-- Data write (R270). -/
def ppuDataWrite (d : Byte) (s : State) : Res Unit :=
  (ppuWrite s.ppu.busAddress d s).andThen fun _ t => .ok () (t.setPpu t.ppu.increment)

/-- The part of a Data read after the check for an address of 0x4000 or above (R271): the value returned, with the
buffer left as the rule says and v not yet incremented. -/
def ppuDataFetch (a : Word) (s : State) : Res Byte :=
  if 0x3F00 ≤ a.toNat then
    (ppuRead a s).andThen fun r t =>
      match t.cfg.palReadBuffer with
      | .unchanged => .ok r t
      | .underlying =>
        (ppuRead (a - 0x1000) t).andThen fun b u => .ok r (u.setPpu { u.ppu with buffer := b })
  else
    (ppuRead a s).andThen fun b t => .ok s.ppu.buffer (t.setPpu { t.ppu with buffer := b })

/-- Data read (R271). -/
def ppuDataRead (s : State) : Res Byte :=
  let a := s.ppu.busAddress
  if 0x4000 ≤ a.toNat ∧ s.cfg.ppuAddrHigh = .fatal then .raise (.unmappedPpuAddress a .read) s
  else (ppuDataFetch (a &&& 0x3FFF) s).andThen fun r t => .ok r (t.setPpu t.ppu.increment)

/-- `PpuRegRead(i)` (R260, R272). -/
def ppuRegRead (r : PpuReg) (s : State) : Res Byte :=
  match r with
  | .control => .ok 0 s
  | .mask => .ok 0 s
  | .status => .ok s.ppu.status (s.setPpu s.ppu.afterStatus)
  | .oamAddress => .ok 0 s
  | .oamData => .ok s.ppu.oamData s
  | .scroll => .ok 0 s
  | .address => .ok 0 s
  | .data => ppuDataRead s

/-- `PpuRegWrite(i, d)` (R260, R264). -/
def ppuRegWrite (r : PpuReg) (d : Byte) (s : State) : Res Unit :=
  match r with
  | .control => .ok () (s.setPpu (s.ppu.writeControl d))
  | .mask => .ok () (s.setPpu (s.ppu.writeMask d))
  | .status => .ok () s
  | .oamAddress => .ok () (s.setPpu (s.ppu.writeOamAddress d))
  | .oamData => .ok () (s.setPpu (s.ppu.writeOamData d))
  | .scroll => .ok () (s.setPpu (s.ppu.writeScroll d))
  | .address => .ok () (s.setPpu (s.ppu.writeAddress d))
  | .data => ppuDataWrite d s

/-- `SetVblank()` and `ClearVblank()` (R274). -/
def Ppu.setVblank (p : Ppu) (b : Bool) : Ppu := { p with vblank := b }

/-- `IsNmiEnabled()` (R274). -/
def Ppu.nmiEnabled (p : Ppu) : Bool := p.ctrl.getLsbD 7

end Sys2Proof.Machine
end

