-- ==== Sys2Proof/Machine/Bus.lean ====
section
/-! DEFINITION. The CPU bus (20_memory.md R60-R71) and OAM DMA (52_controller_dma_driver.md R315-R317). -/

namespace Sys2Proof.Machine

/-- The byte of system RAM a CPU address reaches (R62). -/
def ramIndex (a : Word) : Nat := a.toNat % 0x800

/-- The inert APU/IO addresses (R64). -/
def inertApu (a : Word) : Bool :=
  (0x4000 ≤ a.toNat ∧ a.toNat ≤ 0x4013) ∨ a.toNat = 0x4015 ∨ a.toNat = 0x4017

/-- `MemRead(a, 1)` (R69). -/
def memRead (a : Word) (s : State) : Res Byte :=
  if a.toNat ≤ 0x1FFF then .ok (s.ram.read (ramIndex a)) s
  else if a.toNat ≤ 0x3FFF then ppuRegRead (ppuReg a) s
  else if inertApu a then .ok 0 s
  else if a.toNat = 0x4014 then .ok 0 s
  else if a.toNat = 0x4016 then ctlRead s
  else if a.toNat ≤ 0x401F then .raise (.unmappedCpuAddress a .read) s
  else cartCpuRead a s

/-- The address of byte `i` of an OAM DMA's source page (R315). -/
def dmaSource (page : Byte) (i : Nat) : Word := BitVec.ofNat 16 (page.toNat * 256 + i)

/-- One byte of an OAM DMA (R315). -/
def dmaByte (page : Byte) (i : Nat) (s : State) : Res Unit :=
  (memRead (dmaSource page i) s).andThen fun b t => .ok () (t.setPpu (t.ppu.writeOamData b))

/-- `OamDma(N)` (R315). -/
def oamDma (page : Byte) (s : State) : Res Unit :=
  (forEach (List.range 256) (dmaByte page) s).andThen fun _ t => .ok () (t.setDmaStall Config.dmaStall)

/-- `MemWrite(a, 1, v)` (R70). -/
def memWrite (a : Word) (v : Byte) (s : State) : Res Unit :=
  if a.toNat ≤ 0x1FFF then .ok () (s.setRam (s.ram.write (ramIndex a) v))
  else if a.toNat ≤ 0x3FFF then ppuRegWrite (ppuReg a) v s
  else if inertApu a then .ok () s
  else if a.toNat = 0x4014 then oamDma v s
  else if a.toNat = 0x4016 then ctlWrite v s
  else if a.toNat ≤ 0x401F then .raise (.unmappedCpuAddress a .write) s
  else cartCpuWrite a v s

/-- `Read16(a)`: low byte first (R71). -/
def read16 (a : Word) (s : State) : Res Word :=
  (memRead a s).andThen fun lo t => (memRead (a + 1) t).andThen fun hi u => .ok (cat hi lo) u

/-- The address after `p` in `p`'s own page (R134). -/
def pageNext (p : Word) : Word := (p &&& 0xFF00) ||| zext16 (loByte p + 1)

/-- `Read16Wrap(p)`: the high byte's address keeps the page of `p` (R134). -/
def read16Wrap (p : Word) (s : State) : Res Word :=
  (memRead p s).andThen fun lo t => (memRead (pageNext p) t).andThen fun hi u => .ok (cat hi lo) u

end Sys2Proof.Machine
end

