-- ==== Sys2Proof/Machine/Operands.lean ====
section
/-! DEFINITION. Operand resolution and access (40_addressing_modes.md). The operand bytes are in the instruction, fetched
by Machine/Fetch.lean with the PC moved past them, so the PC here is the address of the next instruction. -/

namespace Sys2Proof.Machine

/-- A resolved operand (R120). -/
inductive Resolved where
  | none
  | imm (b : Byte)
  | addr (a : Word)
deriving DecidableEq, Repr

/-- `(base & 0xFF) + index > 0xFF` (R127, R128, R131). -/
def pageCross (base : Word) (index : Byte) : Bool := decide (0xFF < (loByte base).toNat + index.toNat)

/-- The target of a relative operand, counted from the next instruction (R132). -/
def relTarget (pc : Word) (o : Byte) : Word := pc + sext16 o

/-- `(PC & 0xFF00) != (target & 0xFF00)` (R132). -/
def relCross (pc target : Word) : Bool := (pc &&& 0xFF00) != (target &&& 0xFF00)

/-- The base pointer of (zp),Y (R131). -/
def indyBase (a : Byte) (s : State) : Res Word :=
  match s.cfg.indyPtrWrap with
  | .zeroPage => read16Wrap (zext16 a) s
  | .linear => read16 (zext16 a) s

/-- `Resolve(mode)` (R120-R132): the operand, with `crossed` left in the step's scratch. -/
def resolve (o : Operand) (s : State) : Res Resolved :=
  match o with
  | .imp => .ok .none (s.setCrossed false)
  | .acc => .ok .none (s.setCrossed false)
  | .imm b => .ok (.imm b) (s.setCrossed false)
  | .zp a => .ok (.addr (zext16 a)) (s.setCrossed false)
  | .zpx a => .ok (.addr (zext16 (a + s.cpu.x))) (s.setCrossed false)
  | .zpy a => .ok (.addr (zext16 (a + s.cpu.y))) (s.setCrossed false)
  | .abs l h => .ok (.addr (cat h l)) (s.setCrossed false)
  | .absx l h => .ok (.addr (cat h l + zext16 s.cpu.x)) (s.setCrossed (pageCross (cat h l) s.cpu.x))
  | .absy l h => .ok (.addr (cat h l + zext16 s.cpu.y)) (s.setCrossed (pageCross (cat h l) s.cpu.y))
  | .ind l h => (read16Wrap (cat h l) s).andThen fun w t => .ok (.addr w) (t.setCrossed false)
  | .indx a => (read16Wrap (zext16 (a + s.cpu.x)) s).andThen fun w t => .ok (.addr w) (t.setCrossed false)
  | .indy a =>
    (indyBase a s).andThen fun base t =>
      .ok (.addr (base + zext16 t.cpu.y)) (t.setCrossed (pageCross base t.cpu.y))
  | .rel o =>
    .ok (.addr (relTarget s.cpu.pc o)) (s.setCrossed (relCross s.cpu.pc (relTarget s.cpu.pc o)))

/-- `LoadOperand` (R135). No row pairs a reading operation with `None`; A is what an accumulator form reads (R190). -/
def loadOperand (r : Resolved) (s : State) : Res Byte :=
  match r with
  | .none => .ok s.cpu.a s
  | .imm b => .ok b s
  | .addr a => memRead a s

/-- `StoreOperand` (R136). No row pairs a store with `Imm`; with `None` it writes A, as an accumulator form does
(R190). -/
def storeOperand (r : Resolved) (v : Byte) (s : State) : Res Unit :=
  match r with
  | .none => .ok () (s.setA v)
  | .imm _ => .ok () s
  | .addr a => memWrite a v s

/-- The read-modify-write pattern (R190): one read, the flags that `before` writes from the value read, one write of
`result`, then `after`, which sees the byte written. -/
def rmw (result : Byte → State → Byte) (before : Byte → State → State) (after : Byte → State → State)
    (r : Resolved) (s : State) : Res Unit :=
  (loadOperand r s).andThen fun m t =>
    (storeOperand r (result m t) (before m t)).andThen fun _ u => .ok () (after (result m t) u)

/-- Resolve the operand, then execute: the last part of the CPU step (R332). -/
def perform (o : Operand) (body : Resolved → State → Res Unit) (s : State) : Outcome :=
  ((resolve o s).andThen body).toOutcome

end Sys2Proof.Machine
end

