-- ==== Sys2Proof/Machine/Arith.lean ====
section
/-! DEFINITION. Arithmetic, logic, compare, increment and decrement (spec/42_arithmetic_logic.md). A shared meaning over the resolved operand, then one meaning per row of the table. -/

namespace Sys2Proof.Machine

/-- ADC (R163): binary whatever D holds (R178). -/
def adc (r : Resolved) (s : State) : Res Unit :=
  (loadOperand r s).andThen fun m t => .ok () (t.addWithCarry m)

/-- SBC (R164, R243): binary whatever D holds (R178). -/
def sbc (r : Resolved) (s : State) : Res Unit :=
  (loadOperand r s).andThen fun m t => .ok () (t.addWithCarry (~~~m))

/-- AND (R165). -/
def andAcc (r : Resolved) (s : State) : Res Unit :=
  (loadOperand r s).andThen fun m t => .ok () ((t.setA (t.cpu.a &&& m)).setNZ (t.cpu.a &&& m))

/-- ORA (R166). -/
def ora (r : Resolved) (s : State) : Res Unit :=
  (loadOperand r s).andThen fun m t => .ok () ((t.setA (t.cpu.a ||| m)).setNZ (t.cpu.a ||| m))

/-- EOR (R167). -/
def eor (r : Resolved) (s : State) : Res Unit :=
  (loadOperand r s).andThen fun m t => .ok () ((t.setA (t.cpu.a ^^^ m)).setNZ (t.cpu.a ^^^ m))

/-- CMP (R168). -/
def cmp (r : Resolved) (s : State) : Res Unit :=
  (loadOperand r s).andThen fun m t => .ok () (t.compare t.cpu.a m)

/-- CPX (R169). -/
def cpx (r : Resolved) (s : State) : Res Unit :=
  (loadOperand r s).andThen fun m t => .ok () (t.compare t.cpu.x m)

/-- CPY (R170). -/
def cpy (r : Resolved) (s : State) : Res Unit :=
  (loadOperand r s).andThen fun m t => .ok () (t.compare t.cpu.y m)

/-- BIT (R171). -/
def bitTest (r : Resolved) (s : State) : Res Unit :=
  (loadOperand r s).andThen fun m t => .ok () (t.setFlags (t.cpu.flags.bitTest t.cpu.a m))

/-- INC (R172). -/
def inc (r : Resolved) (s : State) : Res Unit :=
  rmw (fun m _ => m + 1) (fun _ t => t) (fun b t => t.setNZ b) r s

/-- DEC (R173). -/
def dec (r : Resolved) (s : State) : Res Unit :=
  rmw (fun m _ => m - 1) (fun _ t => t) (fun b t => t.setNZ b) r s

/-- INX (R174). -/
def inx (_ : Resolved) (s : State) : Res Unit := .ok () ((s.setX (s.cpu.x + 1)).setNZ (s.cpu.x + 1))

/-- INY (R175). -/
def iny (_ : Resolved) (s : State) : Res Unit := .ok () ((s.setY (s.cpu.y + 1)).setNZ (s.cpu.y + 1))

/-- DEX (R176). -/
def dex (_ : Resolved) (s : State) : Res Unit := .ok () ((s.setX (s.cpu.x - 1)).setNZ (s.cpu.x - 1))

/-- DEY (R177). -/
def dey (_ : Resolved) (s : State) : Res Unit := .ok () ((s.setY (s.cpu.y - 1)).setNZ (s.cpu.y - 1))

/-- ORA indx, 0x01 (R166). -/
def execOraIndx (a : Byte) (s : State) : Outcome := perform (.indx a) ora s

/-- ORA zp, 0x05 (R166). -/
def execOraZp (a : Byte) (s : State) : Outcome := perform (.zp a) ora s

/-- ORA imm, 0x09 (R166). -/
def execOraImm (i : Byte) (s : State) : Outcome := perform (.imm i) ora s

/-- ORA abs, 0x0D (R166). -/
def execOraAbs (l h : Byte) (s : State) : Outcome := perform (.abs l h) ora s

/-- ORA indy, 0x11 (R166). -/
def execOraIndy (a : Byte) (s : State) : Outcome := perform (.indy a) ora s

/-- ORA zpx, 0x15 (R166). -/
def execOraZpx (a : Byte) (s : State) : Outcome := perform (.zpx a) ora s

/-- ORA absy, 0x19 (R166). -/
def execOraAbsy (l h : Byte) (s : State) : Outcome := perform (.absy l h) ora s

/-- ORA absx, 0x1D (R166). -/
def execOraAbsx (l h : Byte) (s : State) : Outcome := perform (.absx l h) ora s

/-- AND indx, 0x21 (R165). -/
def execAndIndx (a : Byte) (s : State) : Outcome := perform (.indx a) andAcc s

/-- BIT zp, 0x24 (R171). -/
def execBitZp (a : Byte) (s : State) : Outcome := perform (.zp a) bitTest s

/-- AND zp, 0x25 (R165). -/
def execAndZp (a : Byte) (s : State) : Outcome := perform (.zp a) andAcc s

/-- AND imm, 0x29 (R165). -/
def execAndImm (i : Byte) (s : State) : Outcome := perform (.imm i) andAcc s

/-- BIT abs, 0x2C (R171). -/
def execBitAbs (l h : Byte) (s : State) : Outcome := perform (.abs l h) bitTest s

/-- AND abs, 0x2D (R165). -/
def execAndAbs (l h : Byte) (s : State) : Outcome := perform (.abs l h) andAcc s

/-- AND indy, 0x31 (R165). -/
def execAndIndy (a : Byte) (s : State) : Outcome := perform (.indy a) andAcc s

/-- AND zpx, 0x35 (R165). -/
def execAndZpx (a : Byte) (s : State) : Outcome := perform (.zpx a) andAcc s

/-- AND absy, 0x39 (R165). -/
def execAndAbsy (l h : Byte) (s : State) : Outcome := perform (.absy l h) andAcc s

/-- AND absx, 0x3D (R165). -/
def execAndAbsx (l h : Byte) (s : State) : Outcome := perform (.absx l h) andAcc s

/-- EOR indx, 0x41 (R167). -/
def execEorIndx (a : Byte) (s : State) : Outcome := perform (.indx a) eor s

/-- EOR zp, 0x45 (R167). -/
def execEorZp (a : Byte) (s : State) : Outcome := perform (.zp a) eor s

/-- EOR imm, 0x49 (R167). -/
def execEorImm (i : Byte) (s : State) : Outcome := perform (.imm i) eor s

/-- EOR abs, 0x4D (R167). -/
def execEorAbs (l h : Byte) (s : State) : Outcome := perform (.abs l h) eor s

/-- EOR indy, 0x51 (R167). -/
def execEorIndy (a : Byte) (s : State) : Outcome := perform (.indy a) eor s

/-- EOR zpx, 0x55 (R167). -/
def execEorZpx (a : Byte) (s : State) : Outcome := perform (.zpx a) eor s

/-- EOR absy, 0x59 (R167). -/
def execEorAbsy (l h : Byte) (s : State) : Outcome := perform (.absy l h) eor s

/-- EOR absx, 0x5D (R167). -/
def execEorAbsx (l h : Byte) (s : State) : Outcome := perform (.absx l h) eor s

/-- ADC indx, 0x61 (R163). -/
def execAdcIndx (a : Byte) (s : State) : Outcome := perform (.indx a) adc s

/-- ADC zp, 0x65 (R163). -/
def execAdcZp (a : Byte) (s : State) : Outcome := perform (.zp a) adc s

/-- ADC imm, 0x69 (R163). -/
def execAdcImm (i : Byte) (s : State) : Outcome := perform (.imm i) adc s

/-- ADC abs, 0x6D (R163). -/
def execAdcAbs (l h : Byte) (s : State) : Outcome := perform (.abs l h) adc s

/-- ADC indy, 0x71 (R163). -/
def execAdcIndy (a : Byte) (s : State) : Outcome := perform (.indy a) adc s

/-- ADC zpx, 0x75 (R163). -/
def execAdcZpx (a : Byte) (s : State) : Outcome := perform (.zpx a) adc s

/-- ADC absy, 0x79 (R163). -/
def execAdcAbsy (l h : Byte) (s : State) : Outcome := perform (.absy l h) adc s

/-- ADC absx, 0x7D (R163). -/
def execAdcAbsx (l h : Byte) (s : State) : Outcome := perform (.absx l h) adc s

/-- DEY imp, 0x88 (R177). -/
def execDey (s : State) : Outcome := perform .imp dey s

/-- CPY imm, 0xC0 (R170). -/
def execCpyImm (i : Byte) (s : State) : Outcome := perform (.imm i) cpy s

/-- CMP indx, 0xC1 (R168). -/
def execCmpIndx (a : Byte) (s : State) : Outcome := perform (.indx a) cmp s

/-- CPY zp, 0xC4 (R170). -/
def execCpyZp (a : Byte) (s : State) : Outcome := perform (.zp a) cpy s

/-- CMP zp, 0xC5 (R168). -/
def execCmpZp (a : Byte) (s : State) : Outcome := perform (.zp a) cmp s

/-- DEC zp, 0xC6 (R173). -/
def execDecZp (a : Byte) (s : State) : Outcome := perform (.zp a) dec s

/-- INY imp, 0xC8 (R175). -/
def execIny (s : State) : Outcome := perform .imp iny s

/-- CMP imm, 0xC9 (R168). -/
def execCmpImm (i : Byte) (s : State) : Outcome := perform (.imm i) cmp s

/-- DEX imp, 0xCA (R176). -/
def execDex (s : State) : Outcome := perform .imp dex s

/-- CPY abs, 0xCC (R170). -/
def execCpyAbs (l h : Byte) (s : State) : Outcome := perform (.abs l h) cpy s

/-- CMP abs, 0xCD (R168). -/
def execCmpAbs (l h : Byte) (s : State) : Outcome := perform (.abs l h) cmp s

/-- DEC abs, 0xCE (R173). -/
def execDecAbs (l h : Byte) (s : State) : Outcome := perform (.abs l h) dec s

/-- CMP indy, 0xD1 (R168). -/
def execCmpIndy (a : Byte) (s : State) : Outcome := perform (.indy a) cmp s

/-- CMP zpx, 0xD5 (R168). -/
def execCmpZpx (a : Byte) (s : State) : Outcome := perform (.zpx a) cmp s

/-- DEC zpx, 0xD6 (R173). -/
def execDecZpx (a : Byte) (s : State) : Outcome := perform (.zpx a) dec s

/-- CMP absy, 0xD9 (R168). -/
def execCmpAbsy (l h : Byte) (s : State) : Outcome := perform (.absy l h) cmp s

/-- CMP absx, 0xDD (R168). -/
def execCmpAbsx (l h : Byte) (s : State) : Outcome := perform (.absx l h) cmp s

/-- DEC absx, 0xDE (R173). -/
def execDecAbsx (l h : Byte) (s : State) : Outcome := perform (.absx l h) dec s

/-- CPX imm, 0xE0 (R169). -/
def execCpxImm (i : Byte) (s : State) : Outcome := perform (.imm i) cpx s

/-- SBC indx, 0xE1 (R164). -/
def execSbcIndx (a : Byte) (s : State) : Outcome := perform (.indx a) sbc s

/-- CPX zp, 0xE4 (R169). -/
def execCpxZp (a : Byte) (s : State) : Outcome := perform (.zp a) cpx s

/-- SBC zp, 0xE5 (R164). -/
def execSbcZp (a : Byte) (s : State) : Outcome := perform (.zp a) sbc s

/-- INC zp, 0xE6 (R172). -/
def execIncZp (a : Byte) (s : State) : Outcome := perform (.zp a) inc s

/-- INX imp, 0xE8 (R174). -/
def execInx (s : State) : Outcome := perform .imp inx s

/-- SBC imm, 0xE9 (R164). -/
def execSbcImm (i : Byte) (s : State) : Outcome := perform (.imm i) sbc s

/-- SBC imm, 0xEB (R243). -/
def execSbcImmEB (i : Byte) (s : State) : Outcome := perform (.imm i) sbc s

/-- CPX abs, 0xEC (R169). -/
def execCpxAbs (l h : Byte) (s : State) : Outcome := perform (.abs l h) cpx s

/-- SBC abs, 0xED (R164). -/
def execSbcAbs (l h : Byte) (s : State) : Outcome := perform (.abs l h) sbc s

/-- INC abs, 0xEE (R172). -/
def execIncAbs (l h : Byte) (s : State) : Outcome := perform (.abs l h) inc s

/-- SBC indy, 0xF1 (R164). -/
def execSbcIndy (a : Byte) (s : State) : Outcome := perform (.indy a) sbc s

/-- SBC zpx, 0xF5 (R164). -/
def execSbcZpx (a : Byte) (s : State) : Outcome := perform (.zpx a) sbc s

/-- INC zpx, 0xF6 (R172). -/
def execIncZpx (a : Byte) (s : State) : Outcome := perform (.zpx a) inc s

/-- SBC absy, 0xF9 (R164). -/
def execSbcAbsy (l h : Byte) (s : State) : Outcome := perform (.absy l h) sbc s

/-- SBC absx, 0xFD (R164). -/
def execSbcAbsx (l h : Byte) (s : State) : Outcome := perform (.absx l h) sbc s

/-- INC absx, 0xFE (R172). -/
def execIncAbsx (l h : Byte) (s : State) : Outcome := perform (.absx l h) inc s

end Sys2Proof.Machine
end

