-- ==== Sys2Proof/Machine/Ops.lean ====
section
/-! DEFINITION. The stack (10_state.md R21, R28, R29), and taking and returning from an interrupt, each once for every
instruction and entry that does it (60_exceptions.md R334, R340). -/

namespace Sys2Proof.Machine

/-- The stack address of a stack pointer: page 0x01 (R21). -/
def stackAddress (sp : Byte) : Word := cat 0x01 sp

/-- `Push(v)`: the store precedes the decrement (R28). -/
def push (v : Byte) (s : State) : Res Unit :=
  (memWrite (stackAddress s.cpu.sp) v s).andThen fun _ t => .ok () (t.setSp (t.cpu.sp - 1))

/-- `Pull()`: the increment precedes the load (R29). -/
def pull (s : State) : Res Byte :=
  let t := s.setSp (s.cpu.sp + 1)
  memRead (stackAddress t.cpu.sp) t

/-- Push a word, high byte first (R72, R210, R334). -/
def pushWord (w : Word) (s : State) : Res Unit :=
  (push (hiByte w) s).andThen fun _ t => push (loByte w) t

/-- Pull a word, low byte first (R211, R212). -/
def pullWord (s : State) : Res Word :=
  (pull s).andThen fun lo t => (pull t).andThen fun hi u => .ok (cat hi lo) u

/-- The I flag written. -/
def State.setI (s : State) (i : Bool) : State := s.setFlags { s.cpu.flags with i := i }

/-- What NMI entry, a serviced IRQ entry and BRK share: push the return address and `Pack(b)`, set I, and load the PC
from the vector (R334, R335, R213). -/
def enterVector (ret : Word) (b : Bool) (vector : Word) (s : State) : Res Unit :=
  (pushWord ret s).andThen fun _ t =>
    (push (t.cpu.flags.pack b) t).andThen fun _ u =>
      (read16 vector (u.setI true)).andThen fun pc w => .ok () (w.setPc pc)

/-- The return from an interrupt: the flags, then the PC, then `servicing` (R212, R340). -/
def returnFromInterrupt (s : State) : Res Unit :=
  (pull s).andThen fun p t =>
    (pullWord (t.setFlags (Flags.unpack p))).andThen fun pc u => .ok () ((u.setPc pc).setServicing false)

/-- The NMI vector (R75). -/
def nmiVector : Word := 0xFFFA

/-- The reset vector (R75). -/
def resetVector : Word := 0xFFFC

/-- The IRQ and BRK vector (R75). -/
def irqVector : Word := 0xFFFE

/-- The fatal undefined opcode: the byte and its address, the PC having advanced past it (R106). -/
def undefinedOpcode (op : Byte) (s : State) : Res Unit :=
  .raise (.undefinedOpcode op (s.cpu.pc - 1)) s

end Sys2Proof.Machine
end

