-- ==== Sys2Proof/Machine/Control.lean ====
section
/-! DEFINITION. Branches, jumps, calls, returns and BRK (spec/44_control_flow.md). A shared meaning over the resolved operand, then one meaning per row of the table. -/

namespace Sys2Proof.Machine

/-- `Branch(cond)` (R200). No row pairs a branch or a jump with a shape other than `Addr` (R105). -/
def branch (cond : Bool) (r : Resolved) (s : State) : Res Unit :=
  match r with
  | .addr target => .ok () ((if cond then s.setPc target else s).setTaken cond)
  | .none => .ok () s
  | .imm _ => .ok () s

/-- BPL (R201). -/
def bpl (r : Resolved) (s : State) : Res Unit := branch (!s.cpu.flags.n) r s

/-- BMI (R202). -/
def bmi (r : Resolved) (s : State) : Res Unit := branch s.cpu.flags.n r s

/-- BVC (R203). -/
def bvc (r : Resolved) (s : State) : Res Unit := branch (!s.cpu.flags.v) r s

/-- BVS (R204). -/
def bvs (r : Resolved) (s : State) : Res Unit := branch s.cpu.flags.v r s

/-- BCC (R205). -/
def bcc (r : Resolved) (s : State) : Res Unit := branch (!s.cpu.flags.c) r s

/-- BCS (R206). -/
def bcs (r : Resolved) (s : State) : Res Unit := branch s.cpu.flags.c r s

/-- BNE (R207). -/
def bne (r : Resolved) (s : State) : Res Unit := branch (!s.cpu.flags.z) r s

/-- BEQ (R208). -/
def beq (r : Resolved) (s : State) : Res Unit := branch s.cpu.flags.z r s

/-- JMP (R209). -/
def jmp (r : Resolved) (s : State) : Res Unit :=
  match r with
  | .addr target => .ok () (s.setPc target)
  | .none => .ok () s
  | .imm _ => .ok () s

/-- JSR: the target is resolved before the pushes (R210). -/
def jsr (r : Resolved) (s : State) : Res Unit :=
  (pushWord (s.cpu.pc - 1) s).andThen fun _ t => jmp r t

/-- RTS (R211). -/
def rts (_ : Resolved) (s : State) : Res Unit :=
  (pullWord s).andThen fun w t => .ok () (t.setPc (w + 1))

/-- RTI (R212). -/
def rti (_ : Resolved) (s : State) : Res Unit := returnFromInterrupt s

/-- BRK: the software interrupt (R213). -/
def brk (_ : Resolved) (s : State) : Res Unit := enterVector (s.cpu.pc + 1) true irqVector s

/-- BRK imp, 0x00 (R213). -/
def execBrk (s : State) : Outcome := perform .imp brk s

/-- BPL rel, 0x10 (R201). -/
def execBplRel (o : Byte) (s : State) : Outcome := perform (.rel o) bpl s

/-- JSR abs, 0x20 (R210). -/
def execJsrAbs (l h : Byte) (s : State) : Outcome := perform (.abs l h) jsr s

/-- BMI rel, 0x30 (R202). -/
def execBmiRel (o : Byte) (s : State) : Outcome := perform (.rel o) bmi s

/-- RTI imp, 0x40 (R212). -/
def execRti (s : State) : Outcome := perform .imp rti s

/-- JMP abs, 0x4C (R209). -/
def execJmpAbs (l h : Byte) (s : State) : Outcome := perform (.abs l h) jmp s

/-- BVC rel, 0x50 (R203). -/
def execBvcRel (o : Byte) (s : State) : Outcome := perform (.rel o) bvc s

/-- RTS imp, 0x60 (R211). -/
def execRts (s : State) : Outcome := perform .imp rts s

/-- JMP ind, 0x6C (R209). -/
def execJmpInd (l h : Byte) (s : State) : Outcome := perform (.ind l h) jmp s

/-- BVS rel, 0x70 (R204). -/
def execBvsRel (o : Byte) (s : State) : Outcome := perform (.rel o) bvs s

/-- BCC rel, 0x90 (R205). -/
def execBccRel (o : Byte) (s : State) : Outcome := perform (.rel o) bcc s

/-- BCS rel, 0xB0 (R206). -/
def execBcsRel (o : Byte) (s : State) : Outcome := perform (.rel o) bcs s

/-- BNE rel, 0xD0 (R207). -/
def execBneRel (o : Byte) (s : State) : Outcome := perform (.rel o) bne s

/-- BEQ rel, 0xF0 (R208). -/
def execBeqRel (o : Byte) (s : State) : Outcome := perform (.rel o) beq s

end Sys2Proof.Machine
end

