-- ==== Sys2Proof/Machine/LoadStore.lean ====
section
/-! DEFINITION. Loads, stores and register transfers (spec/41_load_store_transfer.md). A shared meaning over the resolved operand, then one meaning per row of the table. -/

namespace Sys2Proof.Machine

/-- LDA (R140). -/
def lda (r : Resolved) (s : State) : Res Unit :=
  (loadOperand r s).andThen fun m t => .ok () ((t.setA m).setNZ m)

/-- LDX (R141). -/
def ldx (r : Resolved) (s : State) : Res Unit :=
  (loadOperand r s).andThen fun m t => .ok () ((t.setX m).setNZ m)

/-- LDY (R142). -/
def ldy (r : Resolved) (s : State) : Res Unit :=
  (loadOperand r s).andThen fun m t => .ok () ((t.setY m).setNZ m)

/-- STA (R143). -/
def sta (r : Resolved) (s : State) : Res Unit := storeOperand r s.cpu.a s

/-- STX (R144). -/
def stx (r : Resolved) (s : State) : Res Unit := storeOperand r s.cpu.x s

/-- STY (R145). -/
def sty (r : Resolved) (s : State) : Res Unit := storeOperand r s.cpu.y s

/-- TAX (R146). -/
def tax (_ : Resolved) (s : State) : Res Unit := .ok () ((s.setX s.cpu.a).setNZ s.cpu.a)

/-- TAY (R147). -/
def tay (_ : Resolved) (s : State) : Res Unit := .ok () ((s.setY s.cpu.a).setNZ s.cpu.a)

/-- TXA (R148). -/
def txa (_ : Resolved) (s : State) : Res Unit := .ok () ((s.setA s.cpu.x).setNZ s.cpu.x)

/-- TYA (R149). -/
def tya (_ : Resolved) (s : State) : Res Unit := .ok () ((s.setA s.cpu.y).setNZ s.cpu.y)

/-- TSX (R150). -/
def tsx (_ : Resolved) (s : State) : Res Unit := .ok () ((s.setX s.cpu.sp).setNZ s.cpu.sp)

/-- TXS: the one transfer that sets no flag (R151). -/
def txs (_ : Resolved) (s : State) : Res Unit := .ok () (s.setSp s.cpu.x)

/-- STA indx, 0x81 (R143). -/
def execStaIndx (a : Byte) (s : State) : Outcome := perform (.indx a) sta s

/-- STY zp, 0x84 (R145). -/
def execStyZp (a : Byte) (s : State) : Outcome := perform (.zp a) sty s

/-- STA zp, 0x85 (R143). -/
def execStaZp (a : Byte) (s : State) : Outcome := perform (.zp a) sta s

/-- STX zp, 0x86 (R144). -/
def execStxZp (a : Byte) (s : State) : Outcome := perform (.zp a) stx s

/-- TXA imp, 0x8A (R148). -/
def execTxa (s : State) : Outcome := perform .imp txa s

/-- STY abs, 0x8C (R145). -/
def execStyAbs (l h : Byte) (s : State) : Outcome := perform (.abs l h) sty s

/-- STA abs, 0x8D (R143). -/
def execStaAbs (l h : Byte) (s : State) : Outcome := perform (.abs l h) sta s

/-- STX abs, 0x8E (R144). -/
def execStxAbs (l h : Byte) (s : State) : Outcome := perform (.abs l h) stx s

/-- STA indy, 0x91 (R143). -/
def execStaIndy (a : Byte) (s : State) : Outcome := perform (.indy a) sta s

/-- STY zpx, 0x94 (R145). -/
def execStyZpx (a : Byte) (s : State) : Outcome := perform (.zpx a) sty s

/-- STA zpx, 0x95 (R143). -/
def execStaZpx (a : Byte) (s : State) : Outcome := perform (.zpx a) sta s

/-- STX zpy, 0x96 (R144). -/
def execStxZpy (a : Byte) (s : State) : Outcome := perform (.zpy a) stx s

/-- TYA imp, 0x98 (R149). -/
def execTya (s : State) : Outcome := perform .imp tya s

/-- STA absy, 0x99 (R143). -/
def execStaAbsy (l h : Byte) (s : State) : Outcome := perform (.absy l h) sta s

/-- TXS imp, 0x9A (R151). -/
def execTxs (s : State) : Outcome := perform .imp txs s

/-- STA absx, 0x9D (R143). -/
def execStaAbsx (l h : Byte) (s : State) : Outcome := perform (.absx l h) sta s

/-- LDY imm, 0xA0 (R142). -/
def execLdyImm (i : Byte) (s : State) : Outcome := perform (.imm i) ldy s

/-- LDA indx, 0xA1 (R140). -/
def execLdaIndx (a : Byte) (s : State) : Outcome := perform (.indx a) lda s

/-- LDX imm, 0xA2 (R141). -/
def execLdxImm (i : Byte) (s : State) : Outcome := perform (.imm i) ldx s

/-- LDY zp, 0xA4 (R142). -/
def execLdyZp (a : Byte) (s : State) : Outcome := perform (.zp a) ldy s

/-- LDA zp, 0xA5 (R140). -/
def execLdaZp (a : Byte) (s : State) : Outcome := perform (.zp a) lda s

/-- LDX zp, 0xA6 (R141). -/
def execLdxZp (a : Byte) (s : State) : Outcome := perform (.zp a) ldx s

/-- TAY imp, 0xA8 (R147). -/
def execTay (s : State) : Outcome := perform .imp tay s

/-- LDA imm, 0xA9 (R140). -/
def execLdaImm (i : Byte) (s : State) : Outcome := perform (.imm i) lda s

/-- TAX imp, 0xAA (R146). -/
def execTax (s : State) : Outcome := perform .imp tax s

/-- LDY abs, 0xAC (R142). -/
def execLdyAbs (l h : Byte) (s : State) : Outcome := perform (.abs l h) ldy s

/-- LDA abs, 0xAD (R140). -/
def execLdaAbs (l h : Byte) (s : State) : Outcome := perform (.abs l h) lda s

/-- LDX abs, 0xAE (R141). -/
def execLdxAbs (l h : Byte) (s : State) : Outcome := perform (.abs l h) ldx s

/-- LDA indy, 0xB1 (R140). -/
def execLdaIndy (a : Byte) (s : State) : Outcome := perform (.indy a) lda s

/-- LDY zpx, 0xB4 (R142). -/
def execLdyZpx (a : Byte) (s : State) : Outcome := perform (.zpx a) ldy s

/-- LDA zpx, 0xB5 (R140). -/
def execLdaZpx (a : Byte) (s : State) : Outcome := perform (.zpx a) lda s

/-- LDX zpy, 0xB6 (R141). -/
def execLdxZpy (a : Byte) (s : State) : Outcome := perform (.zpy a) ldx s

/-- LDA absy, 0xB9 (R140). -/
def execLdaAbsy (l h : Byte) (s : State) : Outcome := perform (.absy l h) lda s

/-- TSX imp, 0xBA (R150). -/
def execTsx (s : State) : Outcome := perform .imp tsx s

/-- LDY absx, 0xBC (R142). -/
def execLdyAbsx (l h : Byte) (s : State) : Outcome := perform (.absx l h) ldy s

/-- LDA absx, 0xBD (R140). -/
def execLdaAbsx (l h : Byte) (s : State) : Outcome := perform (.absx l h) lda s

/-- LDX absy, 0xBE (R141). -/
def execLdxAbsy (l h : Byte) (s : State) : Outcome := perform (.absy l h) ldx s

end Sys2Proof.Machine
end

