-- ==== Sys2Proof/Machine/Nop.lean ====
section
/-! DEFINITION. The no-operations, documented (45_stack_flags_nop.md R231) and undocumented (46_undocumented.md R250). A shared meaning over the resolved operand, then one meaning per row of the table. -/

namespace Sys2Proof.Machine

/-- NOP: `Resolve` has advanced the PC; the effective address is not read (R231, R250). -/
def nop (_ : Resolved) (s : State) : Res Unit := .ok () s

/-- NOP zp, 0x04 (R250). -/
def execNopZp04 (a : Byte) (s : State) : Outcome := perform (.zp a) nop s

/-- NOP abs, 0x0C (R250). -/
def execNopAbs0C (l h : Byte) (s : State) : Outcome := perform (.abs l h) nop s

/-- NOP zpx, 0x14 (R250). -/
def execNopZpx14 (a : Byte) (s : State) : Outcome := perform (.zpx a) nop s

/-- NOP imp, 0x1A (R250). -/
def execNopImp1A (s : State) : Outcome := perform .imp nop s

/-- NOP absx, 0x1C (R250). -/
def execNopAbsx1C (l h : Byte) (s : State) : Outcome := perform (.absx l h) nop s

/-- NOP zpx, 0x34 (R250). -/
def execNopZpx34 (a : Byte) (s : State) : Outcome := perform (.zpx a) nop s

/-- NOP imp, 0x3A (R250). -/
def execNopImp3A (s : State) : Outcome := perform .imp nop s

/-- NOP absx, 0x3C (R250). -/
def execNopAbsx3C (l h : Byte) (s : State) : Outcome := perform (.absx l h) nop s

/-- NOP zp, 0x44 (R250). -/
def execNopZp44 (a : Byte) (s : State) : Outcome := perform (.zp a) nop s

/-- NOP zpx, 0x54 (R250). -/
def execNopZpx54 (a : Byte) (s : State) : Outcome := perform (.zpx a) nop s

/-- NOP imp, 0x5A (R250). -/
def execNopImp5A (s : State) : Outcome := perform .imp nop s

/-- NOP absx, 0x5C (R250). -/
def execNopAbsx5C (l h : Byte) (s : State) : Outcome := perform (.absx l h) nop s

/-- NOP zp, 0x64 (R250). -/
def execNopZp64 (a : Byte) (s : State) : Outcome := perform (.zp a) nop s

/-- NOP zpx, 0x74 (R250). -/
def execNopZpx74 (a : Byte) (s : State) : Outcome := perform (.zpx a) nop s

/-- NOP imp, 0x7A (R250). -/
def execNopImp7A (s : State) : Outcome := perform .imp nop s

/-- NOP absx, 0x7C (R250). -/
def execNopAbsx7C (l h : Byte) (s : State) : Outcome := perform (.absx l h) nop s

/-- NOP imm, 0x80 (R250). -/
def execNopImm80 (i : Byte) (s : State) : Outcome := perform (.imm i) nop s

/-- NOP imm, 0x82 (R250). -/
def execNopImm82 (i : Byte) (s : State) : Outcome := perform (.imm i) nop s

/-- NOP imm, 0x89 (R250). -/
def execNopImm89 (i : Byte) (s : State) : Outcome := perform (.imm i) nop s

/-- NOP imm, 0xC2 (R250). -/
def execNopImmC2 (i : Byte) (s : State) : Outcome := perform (.imm i) nop s

/-- NOP zpx, 0xD4 (R250). -/
def execNopZpxD4 (a : Byte) (s : State) : Outcome := perform (.zpx a) nop s

/-- NOP imp, 0xDA (R250). -/
def execNopImpDA (s : State) : Outcome := perform .imp nop s

/-- NOP absx, 0xDC (R250). -/
def execNopAbsxDC (l h : Byte) (s : State) : Outcome := perform (.absx l h) nop s

/-- NOP imm, 0xE2 (R250). -/
def execNopImmE2 (i : Byte) (s : State) : Outcome := perform (.imm i) nop s

/-- NOP imp, 0xEA (R231). -/
def execNop (s : State) : Outcome := perform .imp nop s

/-- NOP zpx, 0xF4 (R250). -/
def execNopZpxF4 (a : Byte) (s : State) : Outcome := perform (.zpx a) nop s

/-- NOP imp, 0xFA (R250). -/
def execNopImpFA (s : State) : Outcome := perform .imp nop s

/-- NOP absx, 0xFC (R250). -/
def execNopAbsxFC (l h : Byte) (s : State) : Outcome := perform (.absx l h) nop s

end Sys2Proof.Machine
end

