-- ==== Sys2Proof/Machine/Shift.lean ====
section
/-! DEFINITION. Shifts and rotates, accumulator and memory forms (spec/43_shift_rotate.md). A shared meaning over the resolved operand, then one meaning per row of the table. -/

namespace Sys2Proof.Machine

/-- ASL (R191). -/
def asl (r : Resolved) (s : State) : Res Unit :=
  rmw (fun m _ => aslResult m) (fun m t => t.setC (m.getLsbD 7)) (fun b t => t.setNZ b) r s

/-- LSR (R192). -/
def lsr (r : Resolved) (s : State) : Res Unit :=
  rmw (fun m _ => lsrResult m) (fun m t => t.setC (m.getLsbD 0)) (fun b t => t.setNZ b) r s

/-- ROL (R193). -/
def rol (r : Resolved) (s : State) : Res Unit :=
  rmw (fun m t => rolResult m t.cpu.flags.c) (fun m t => t.setC (m.getLsbD 7)) (fun b t => t.setNZ b) r s

/-- ROR (R194). -/
def ror (r : Resolved) (s : State) : Res Unit :=
  rmw (fun m t => rorResult m t.cpu.flags.c) (fun m t => t.setC (m.getLsbD 0)) (fun b t => t.setNZ b) r s

/-- ASL zp, 0x06 (R191). -/
def execAslZp (a : Byte) (s : State) : Outcome := perform (.zp a) asl s

/-- ASL acc, 0x0A (R191). -/
def execAslAcc (s : State) : Outcome := perform .acc asl s

/-- ASL abs, 0x0E (R191). -/
def execAslAbs (l h : Byte) (s : State) : Outcome := perform (.abs l h) asl s

/-- ASL zpx, 0x16 (R191). -/
def execAslZpx (a : Byte) (s : State) : Outcome := perform (.zpx a) asl s

/-- ASL absx, 0x1E (R191). -/
def execAslAbsx (l h : Byte) (s : State) : Outcome := perform (.absx l h) asl s

/-- ROL zp, 0x26 (R193). -/
def execRolZp (a : Byte) (s : State) : Outcome := perform (.zp a) rol s

/-- ROL acc, 0x2A (R193). -/
def execRolAcc (s : State) : Outcome := perform .acc rol s

/-- ROL abs, 0x2E (R193). -/
def execRolAbs (l h : Byte) (s : State) : Outcome := perform (.abs l h) rol s

/-- ROL zpx, 0x36 (R193). -/
def execRolZpx (a : Byte) (s : State) : Outcome := perform (.zpx a) rol s

/-- ROL absx, 0x3E (R193). -/
def execRolAbsx (l h : Byte) (s : State) : Outcome := perform (.absx l h) rol s

/-- LSR zp, 0x46 (R192). -/
def execLsrZp (a : Byte) (s : State) : Outcome := perform (.zp a) lsr s

/-- LSR acc, 0x4A (R192). -/
def execLsrAcc (s : State) : Outcome := perform .acc lsr s

/-- LSR abs, 0x4E (R192). -/
def execLsrAbs (l h : Byte) (s : State) : Outcome := perform (.abs l h) lsr s

/-- LSR zpx, 0x56 (R192). -/
def execLsrZpx (a : Byte) (s : State) : Outcome := perform (.zpx a) lsr s

/-- LSR absx, 0x5E (R192). -/
def execLsrAbsx (l h : Byte) (s : State) : Outcome := perform (.absx l h) lsr s

/-- ROR zp, 0x66 (R194). -/
def execRorZp (a : Byte) (s : State) : Outcome := perform (.zp a) ror s

/-- ROR acc, 0x6A (R194). -/
def execRorAcc (s : State) : Outcome := perform .acc ror s

/-- ROR abs, 0x6E (R194). -/
def execRorAbs (l h : Byte) (s : State) : Outcome := perform (.abs l h) ror s

/-- ROR zpx, 0x76 (R194). -/
def execRorZpx (a : Byte) (s : State) : Outcome := perform (.zpx a) ror s

/-- ROR absx, 0x7E (R194). -/
def execRorAbsx (l h : Byte) (s : State) : Outcome := perform (.absx l h) ror s

end Sys2Proof.Machine
end

