-- ==== Sys2Proof/Machine/StackFlags.lean ====
section
/-! DEFINITION. Stack and flag instructions (spec/45_stack_flags_nop.md). A shared meaning over the resolved operand, then one meaning per row of the table. -/

namespace Sys2Proof.Machine

/-- PHA (R220). -/
def pha (_ : Resolved) (s : State) : Res Unit := push s.cpu.a s

/-- PHP: bits 5 and 4 both 1 (R221, R26). -/
def php (_ : Resolved) (s : State) : Res Unit := push (s.cpu.flags.pack true) s

/-- PLA (R222). -/
def pla (_ : Resolved) (s : State) : Res Unit :=
  (pull s).andThen fun m t => .ok () ((t.setA m).setNZ m)

/-- PLP: bits 5 and 4 ignored (R223, R25). -/
def plp (_ : Resolved) (s : State) : Res Unit :=
  (pull s).andThen fun p t => .ok () (t.setFlags (Flags.unpack p))

/-- CLC (R224). -/
def clc (_ : Resolved) (s : State) : Res Unit := .ok () (s.setFlags { s.cpu.flags with c := false })

/-- CLD (R225). -/
def cld (_ : Resolved) (s : State) : Res Unit := .ok () (s.setFlags { s.cpu.flags with d := false })

/-- CLI (R226). -/
def cli (_ : Resolved) (s : State) : Res Unit := .ok () (s.setFlags { s.cpu.flags with i := false })

/-- CLV (R227). -/
def clv (_ : Resolved) (s : State) : Res Unit := .ok () (s.setFlags { s.cpu.flags with v := false })

/-- SEC (R228). -/
def sec (_ : Resolved) (s : State) : Res Unit := .ok () (s.setFlags { s.cpu.flags with c := true })

/-- SED (R229). -/
def sed (_ : Resolved) (s : State) : Res Unit := .ok () (s.setFlags { s.cpu.flags with d := true })

/-- SEI (R230). -/
def sei (_ : Resolved) (s : State) : Res Unit := .ok () (s.setFlags { s.cpu.flags with i := true })

/-- PHP imp, 0x08 (R221). -/
def execPhp (s : State) : Outcome := perform .imp php s

/-- CLC imp, 0x18 (R224). -/
def execClc (s : State) : Outcome := perform .imp clc s

/-- PLP imp, 0x28 (R223). -/
def execPlp (s : State) : Outcome := perform .imp plp s

/-- SEC imp, 0x38 (R228). -/
def execSec (s : State) : Outcome := perform .imp sec s

/-- PHA imp, 0x48 (R220). -/
def execPha (s : State) : Outcome := perform .imp pha s

/-- CLI imp, 0x58 (R226). -/
def execCli (s : State) : Outcome := perform .imp cli s

/-- PLA imp, 0x68 (R222). -/
def execPla (s : State) : Outcome := perform .imp pla s

/-- SEI imp, 0x78 (R230). -/
def execSei (s : State) : Outcome := perform .imp sei s

/-- CLV imp, 0xB8 (R227). -/
def execClv (s : State) : Outcome := perform .imp clv s

/-- CLD imp, 0xD8 (R225). -/
def execCld (s : State) : Outcome := perform .imp cld s

/-- SED imp, 0xF8 (R229). -/
def execSed (s : State) : Outcome := perform .imp sed s

end Sys2Proof.Machine
end

