-- ==== Sys2Proof/Machine/Undefined.lean ====
section
/-! DEFINITION. The 25 bytes that are undefined under every setting (30_encoding.md R106): fatal. -/

namespace Sys2Proof.Machine

/-- Undefined, 0x02 (R106). -/
def execUndef02 (s : State) : Outcome := (undefinedOpcode 0x02 s).toOutcome

/-- Undefined, 0x0B (R106). -/
def execUndef0B (s : State) : Outcome := (undefinedOpcode 0x0B s).toOutcome

/-- Undefined, 0x12 (R106). -/
def execUndef12 (s : State) : Outcome := (undefinedOpcode 0x12 s).toOutcome

/-- Undefined, 0x22 (R106). -/
def execUndef22 (s : State) : Outcome := (undefinedOpcode 0x22 s).toOutcome

/-- Undefined, 0x2B (R106). -/
def execUndef2B (s : State) : Outcome := (undefinedOpcode 0x2B s).toOutcome

/-- Undefined, 0x32 (R106). -/
def execUndef32 (s : State) : Outcome := (undefinedOpcode 0x32 s).toOutcome

/-- Undefined, 0x42 (R106). -/
def execUndef42 (s : State) : Outcome := (undefinedOpcode 0x42 s).toOutcome

/-- Undefined, 0x4B (R106). -/
def execUndef4B (s : State) : Outcome := (undefinedOpcode 0x4B s).toOutcome

/-- Undefined, 0x52 (R106). -/
def execUndef52 (s : State) : Outcome := (undefinedOpcode 0x52 s).toOutcome

/-- Undefined, 0x62 (R106). -/
def execUndef62 (s : State) : Outcome := (undefinedOpcode 0x62 s).toOutcome

/-- Undefined, 0x6B (R106). -/
def execUndef6B (s : State) : Outcome := (undefinedOpcode 0x6B s).toOutcome

/-- Undefined, 0x72 (R106). -/
def execUndef72 (s : State) : Outcome := (undefinedOpcode 0x72 s).toOutcome

/-- Undefined, 0x8B (R106). -/
def execUndef8B (s : State) : Outcome := (undefinedOpcode 0x8B s).toOutcome

/-- Undefined, 0x92 (R106). -/
def execUndef92 (s : State) : Outcome := (undefinedOpcode 0x92 s).toOutcome

/-- Undefined, 0x93 (R106). -/
def execUndef93 (s : State) : Outcome := (undefinedOpcode 0x93 s).toOutcome

/-- Undefined, 0x9B (R106). -/
def execUndef9B (s : State) : Outcome := (undefinedOpcode 0x9B s).toOutcome

/-- Undefined, 0x9C (R106). -/
def execUndef9C (s : State) : Outcome := (undefinedOpcode 0x9C s).toOutcome

/-- Undefined, 0x9E (R106). -/
def execUndef9E (s : State) : Outcome := (undefinedOpcode 0x9E s).toOutcome

/-- Undefined, 0x9F (R106). -/
def execUndef9F (s : State) : Outcome := (undefinedOpcode 0x9F s).toOutcome

/-- Undefined, 0xAB (R106). -/
def execUndefAB (s : State) : Outcome := (undefinedOpcode 0xAB s).toOutcome

/-- Undefined, 0xB2 (R106). -/
def execUndefB2 (s : State) : Outcome := (undefinedOpcode 0xB2 s).toOutcome

/-- Undefined, 0xBB (R106). -/
def execUndefBB (s : State) : Outcome := (undefinedOpcode 0xBB s).toOutcome

/-- Undefined, 0xCB (R106). -/
def execUndefCB (s : State) : Outcome := (undefinedOpcode 0xCB s).toOutcome

/-- Undefined, 0xD2 (R106). -/
def execUndefD2 (s : State) : Outcome := (undefinedOpcode 0xD2 s).toOutcome

/-- Undefined, 0xF2 (R106). -/
def execUndefF2 (s : State) : Outcome := (undefinedOpcode 0xF2 s).toOutcome

end Sys2Proof.Machine
end

