-- ==== Sys2Proof/Machine/Undocumented.lean ====
section
/-! DEFINITION. The undocumented loads, stores and read-modify-write instructions (spec/46_undocumented.md). Which of them the step
lets run is `UNDOC_ENABLED` (R240, Machine/Fetch.lean). A shared meaning over the resolved operand, then one meaning per row of the table. -/

namespace Sys2Proof.Machine

/-- LAX (R241). -/
def lax (r : Resolved) (s : State) : Res Unit :=
  (loadOperand r s).andThen fun m t => .ok () (((t.setA m).setX m).setNZ m)

/-- SAX (R242). -/
def sax (r : Resolved) (s : State) : Res Unit := storeOperand r (s.cpu.a &&& s.cpu.x) s

/-- DCP (R244). -/
def dcp (r : Resolved) (s : State) : Res Unit :=
  rmw (fun m _ => m - 1) (fun _ t => t) (fun b t => t.compare t.cpu.a b) r s

/-- ISB (R245). -/
def isb (r : Resolved) (s : State) : Res Unit :=
  rmw (fun m _ => m + 1) (fun _ t => t) (fun b t => t.addWithCarry (~~~b)) r s

/-- SLO (R246). -/
def slo (r : Resolved) (s : State) : Res Unit :=
  rmw (fun m _ => aslResult m) (fun m t => t.setC (m.getLsbD 7))
    (fun b t => (t.setA (t.cpu.a ||| b)).setNZ (t.cpu.a ||| b)) r s

/-- RLA (R247). -/
def rla (r : Resolved) (s : State) : Res Unit :=
  rmw (fun m t => rolResult m t.cpu.flags.c) (fun m t => t.setC (m.getLsbD 7))
    (fun b t => (t.setA (t.cpu.a &&& b)).setNZ (t.cpu.a &&& b)) r s

/-- SRE (R248). -/
def sre (r : Resolved) (s : State) : Res Unit :=
  rmw (fun m _ => lsrResult m) (fun m t => t.setC (m.getLsbD 0))
    (fun b t => (t.setA (t.cpu.a ^^^ b)).setNZ (t.cpu.a ^^^ b)) r s

/-- RRA: the addition uses the C the rotate just produced (R249). -/
def rra (r : Resolved) (s : State) : Res Unit :=
  rmw (fun m t => rorResult m t.cpu.flags.c) (fun m t => t.setC (m.getLsbD 0)) (fun b t => t.addWithCarry b) r s

/-- SLO indx, 0x03 (R246). -/
def execSloIndx (a : Byte) (s : State) : Outcome := perform (.indx a) slo s

/-- SLO zp, 0x07 (R246). -/
def execSloZp (a : Byte) (s : State) : Outcome := perform (.zp a) slo s

/-- SLO abs, 0x0F (R246). -/
def execSloAbs (l h : Byte) (s : State) : Outcome := perform (.abs l h) slo s

/-- SLO indy, 0x13 (R246). -/
def execSloIndy (a : Byte) (s : State) : Outcome := perform (.indy a) slo s

/-- SLO zpx, 0x17 (R246). -/
def execSloZpx (a : Byte) (s : State) : Outcome := perform (.zpx a) slo s

/-- SLO absy, 0x1B (R246). -/
def execSloAbsy (l h : Byte) (s : State) : Outcome := perform (.absy l h) slo s

/-- SLO absx, 0x1F (R246). -/
def execSloAbsx (l h : Byte) (s : State) : Outcome := perform (.absx l h) slo s

/-- RLA indx, 0x23 (R247). -/
def execRlaIndx (a : Byte) (s : State) : Outcome := perform (.indx a) rla s

/-- RLA zp, 0x27 (R247). -/
def execRlaZp (a : Byte) (s : State) : Outcome := perform (.zp a) rla s

/-- RLA abs, 0x2F (R247). -/
def execRlaAbs (l h : Byte) (s : State) : Outcome := perform (.abs l h) rla s

/-- RLA indy, 0x33 (R247). -/
def execRlaIndy (a : Byte) (s : State) : Outcome := perform (.indy a) rla s

/-- RLA zpx, 0x37 (R247). -/
def execRlaZpx (a : Byte) (s : State) : Outcome := perform (.zpx a) rla s

/-- RLA absy, 0x3B (R247). -/
def execRlaAbsy (l h : Byte) (s : State) : Outcome := perform (.absy l h) rla s

/-- RLA absx, 0x3F (R247). -/
def execRlaAbsx (l h : Byte) (s : State) : Outcome := perform (.absx l h) rla s

/-- SRE indx, 0x43 (R248). -/
def execSreIndx (a : Byte) (s : State) : Outcome := perform (.indx a) sre s

/-- SRE zp, 0x47 (R248). -/
def execSreZp (a : Byte) (s : State) : Outcome := perform (.zp a) sre s

/-- SRE abs, 0x4F (R248). -/
def execSreAbs (l h : Byte) (s : State) : Outcome := perform (.abs l h) sre s

/-- SRE indy, 0x53 (R248). -/
def execSreIndy (a : Byte) (s : State) : Outcome := perform (.indy a) sre s

/-- SRE zpx, 0x57 (R248). -/
def execSreZpx (a : Byte) (s : State) : Outcome := perform (.zpx a) sre s

/-- SRE absy, 0x5B (R248). -/
def execSreAbsy (l h : Byte) (s : State) : Outcome := perform (.absy l h) sre s

/-- SRE absx, 0x5F (R248). -/
def execSreAbsx (l h : Byte) (s : State) : Outcome := perform (.absx l h) sre s

/-- RRA indx, 0x63 (R249). -/
def execRraIndx (a : Byte) (s : State) : Outcome := perform (.indx a) rra s

/-- RRA zp, 0x67 (R249). -/
def execRraZp (a : Byte) (s : State) : Outcome := perform (.zp a) rra s

/-- RRA abs, 0x6F (R249). -/
def execRraAbs (l h : Byte) (s : State) : Outcome := perform (.abs l h) rra s

/-- RRA indy, 0x73 (R249). -/
def execRraIndy (a : Byte) (s : State) : Outcome := perform (.indy a) rra s

/-- RRA zpx, 0x77 (R249). -/
def execRraZpx (a : Byte) (s : State) : Outcome := perform (.zpx a) rra s

/-- RRA absy, 0x7B (R249). -/
def execRraAbsy (l h : Byte) (s : State) : Outcome := perform (.absy l h) rra s

/-- RRA absx, 0x7F (R249). -/
def execRraAbsx (l h : Byte) (s : State) : Outcome := perform (.absx l h) rra s

/-- SAX indx, 0x83 (R242). -/
def execSaxIndx (a : Byte) (s : State) : Outcome := perform (.indx a) sax s

/-- SAX zp, 0x87 (R242). -/
def execSaxZp (a : Byte) (s : State) : Outcome := perform (.zp a) sax s

/-- SAX abs, 0x8F (R242). -/
def execSaxAbs (l h : Byte) (s : State) : Outcome := perform (.abs l h) sax s

/-- SAX zpy, 0x97 (R242). -/
def execSaxZpy (a : Byte) (s : State) : Outcome := perform (.zpy a) sax s

/-- LAX indx, 0xA3 (R241). -/
def execLaxIndx (a : Byte) (s : State) : Outcome := perform (.indx a) lax s

/-- LAX zp, 0xA7 (R241). -/
def execLaxZp (a : Byte) (s : State) : Outcome := perform (.zp a) lax s

/-- LAX abs, 0xAF (R241). -/
def execLaxAbs (l h : Byte) (s : State) : Outcome := perform (.abs l h) lax s

/-- LAX indy, 0xB3 (R241). -/
def execLaxIndy (a : Byte) (s : State) : Outcome := perform (.indy a) lax s

/-- LAX zpy, 0xB7 (R241). -/
def execLaxZpy (a : Byte) (s : State) : Outcome := perform (.zpy a) lax s

/-- LAX absy, 0xBF (R241). -/
def execLaxAbsy (l h : Byte) (s : State) : Outcome := perform (.absy l h) lax s

/-- DCP indx, 0xC3 (R244). -/
def execDcpIndx (a : Byte) (s : State) : Outcome := perform (.indx a) dcp s

/-- DCP zp, 0xC7 (R244). -/
def execDcpZp (a : Byte) (s : State) : Outcome := perform (.zp a) dcp s

/-- DCP abs, 0xCF (R244). -/
def execDcpAbs (l h : Byte) (s : State) : Outcome := perform (.abs l h) dcp s

/-- DCP indy, 0xD3 (R244). -/
def execDcpIndy (a : Byte) (s : State) : Outcome := perform (.indy a) dcp s

/-- DCP zpx, 0xD7 (R244). -/
def execDcpZpx (a : Byte) (s : State) : Outcome := perform (.zpx a) dcp s

/-- DCP absy, 0xDB (R244). -/
def execDcpAbsy (l h : Byte) (s : State) : Outcome := perform (.absy l h) dcp s

/-- DCP absx, 0xDF (R244). -/
def execDcpAbsx (l h : Byte) (s : State) : Outcome := perform (.absx l h) dcp s

/-- ISB indx, 0xE3 (R245). -/
def execIsbIndx (a : Byte) (s : State) : Outcome := perform (.indx a) isb s

/-- ISB zp, 0xE7 (R245). -/
def execIsbZp (a : Byte) (s : State) : Outcome := perform (.zp a) isb s

/-- ISB abs, 0xEF (R245). -/
def execIsbAbs (l h : Byte) (s : State) : Outcome := perform (.abs l h) isb s

/-- ISB indy, 0xF3 (R245). -/
def execIsbIndy (a : Byte) (s : State) : Outcome := perform (.indy a) isb s

/-- ISB zpx, 0xF7 (R245). -/
def execIsbZpx (a : Byte) (s : State) : Outcome := perform (.zpx a) isb s

/-- ISB absy, 0xFB (R245). -/
def execIsbAbsy (l h : Byte) (s : State) : Outcome := perform (.absy l h) isb s

/-- ISB absx, 0xFF (R245). -/
def execIsbAbsx (l h : Byte) (s : State) : Outcome := perform (.absx l h) isb s

end Sys2Proof.Machine
end

