-- ==== Sys2Proof/Machine/Dispatch.lean ====
section
/-! DEFINITION. Which meaning each instruction has: one arm per constructor of Instr. -/

namespace Sys2Proof.Machine

def exec (i : Instr) (s : State) : Host.Outcome State Fault Refusal :=
  match i with
  | .oraIndx a => Sys2Proof.Machine.execOraIndx a s
  | .sloIndx a => Sys2Proof.Machine.execSloIndx a s
  | .nopZp04 a => Sys2Proof.Machine.execNopZp04 a s
  | .oraZp a => Sys2Proof.Machine.execOraZp a s
  | .aslZp a => Sys2Proof.Machine.execAslZp a s
  | .sloZp a => Sys2Proof.Machine.execSloZp a s
  | .oraImm b => Sys2Proof.Machine.execOraImm b s
  | .nopAbs0C l h => Sys2Proof.Machine.execNopAbs0C l h s
  | .oraAbs l h => Sys2Proof.Machine.execOraAbs l h s
  | .aslAbs l h => Sys2Proof.Machine.execAslAbs l h s
  | .sloAbs l h => Sys2Proof.Machine.execSloAbs l h s
  | .bplRel o => Sys2Proof.Machine.execBplRel o s
  | .oraIndy a => Sys2Proof.Machine.execOraIndy a s
  | .sloIndy a => Sys2Proof.Machine.execSloIndy a s
  | .nopZpx14 a => Sys2Proof.Machine.execNopZpx14 a s
  | .oraZpx a => Sys2Proof.Machine.execOraZpx a s
  | .aslZpx a => Sys2Proof.Machine.execAslZpx a s
  | .sloZpx a => Sys2Proof.Machine.execSloZpx a s
  | .oraAbsy l h => Sys2Proof.Machine.execOraAbsy l h s
  | .sloAbsy l h => Sys2Proof.Machine.execSloAbsy l h s
  | .nopAbsx1C l h => Sys2Proof.Machine.execNopAbsx1C l h s
  | .oraAbsx l h => Sys2Proof.Machine.execOraAbsx l h s
  | .aslAbsx l h => Sys2Proof.Machine.execAslAbsx l h s
  | .sloAbsx l h => Sys2Proof.Machine.execSloAbsx l h s
  | .jsrAbs l h => Sys2Proof.Machine.execJsrAbs l h s
  | .andIndx a => Sys2Proof.Machine.execAndIndx a s
  | .rlaIndx a => Sys2Proof.Machine.execRlaIndx a s
  | .bitZp a => Sys2Proof.Machine.execBitZp a s
  | .andZp a => Sys2Proof.Machine.execAndZp a s
  | .rolZp a => Sys2Proof.Machine.execRolZp a s
  | .rlaZp a => Sys2Proof.Machine.execRlaZp a s
  | .andImm b => Sys2Proof.Machine.execAndImm b s
  | .bitAbs l h => Sys2Proof.Machine.execBitAbs l h s
  | .andAbs l h => Sys2Proof.Machine.execAndAbs l h s
  | .rolAbs l h => Sys2Proof.Machine.execRolAbs l h s
  | .rlaAbs l h => Sys2Proof.Machine.execRlaAbs l h s
  | .bmiRel o => Sys2Proof.Machine.execBmiRel o s
  | .andIndy a => Sys2Proof.Machine.execAndIndy a s
  | .rlaIndy a => Sys2Proof.Machine.execRlaIndy a s
  | .nopZpx34 a => Sys2Proof.Machine.execNopZpx34 a s
  | .andZpx a => Sys2Proof.Machine.execAndZpx a s
  | .rolZpx a => Sys2Proof.Machine.execRolZpx a s
  | .rlaZpx a => Sys2Proof.Machine.execRlaZpx a s
  | .andAbsy l h => Sys2Proof.Machine.execAndAbsy l h s
  | .rlaAbsy l h => Sys2Proof.Machine.execRlaAbsy l h s
  | .nopAbsx3C l h => Sys2Proof.Machine.execNopAbsx3C l h s
  | .andAbsx l h => Sys2Proof.Machine.execAndAbsx l h s
  | .rolAbsx l h => Sys2Proof.Machine.execRolAbsx l h s
  | .rlaAbsx l h => Sys2Proof.Machine.execRlaAbsx l h s
  | .eorIndx a => Sys2Proof.Machine.execEorIndx a s
  | .sreIndx a => Sys2Proof.Machine.execSreIndx a s
  | .nopZp44 a => Sys2Proof.Machine.execNopZp44 a s
  | .eorZp a => Sys2Proof.Machine.execEorZp a s
  | .lsrZp a => Sys2Proof.Machine.execLsrZp a s
  | .sreZp a => Sys2Proof.Machine.execSreZp a s
  | .eorImm b => Sys2Proof.Machine.execEorImm b s
  | .jmpAbs l h => Sys2Proof.Machine.execJmpAbs l h s
  | .eorAbs l h => Sys2Proof.Machine.execEorAbs l h s
  | .lsrAbs l h => Sys2Proof.Machine.execLsrAbs l h s
  | .sreAbs l h => Sys2Proof.Machine.execSreAbs l h s
  | .bvcRel o => Sys2Proof.Machine.execBvcRel o s
  | .eorIndy a => Sys2Proof.Machine.execEorIndy a s
  | .sreIndy a => Sys2Proof.Machine.execSreIndy a s
  | .nopZpx54 a => Sys2Proof.Machine.execNopZpx54 a s
  | .eorZpx a => Sys2Proof.Machine.execEorZpx a s
  | .lsrZpx a => Sys2Proof.Machine.execLsrZpx a s
  | .sreZpx a => Sys2Proof.Machine.execSreZpx a s
  | .eorAbsy l h => Sys2Proof.Machine.execEorAbsy l h s
  | .sreAbsy l h => Sys2Proof.Machine.execSreAbsy l h s
  | .nopAbsx5C l h => Sys2Proof.Machine.execNopAbsx5C l h s
  | .eorAbsx l h => Sys2Proof.Machine.execEorAbsx l h s
  | .lsrAbsx l h => Sys2Proof.Machine.execLsrAbsx l h s
  | .sreAbsx l h => Sys2Proof.Machine.execSreAbsx l h s
  | .adcIndx a => Sys2Proof.Machine.execAdcIndx a s
  | .rraIndx a => Sys2Proof.Machine.execRraIndx a s
  | .nopZp64 a => Sys2Proof.Machine.execNopZp64 a s
  | .adcZp a => Sys2Proof.Machine.execAdcZp a s
  | .rorZp a => Sys2Proof.Machine.execRorZp a s
  | .rraZp a => Sys2Proof.Machine.execRraZp a s
  | .adcImm b => Sys2Proof.Machine.execAdcImm b s
  | .jmpInd l h => Sys2Proof.Machine.execJmpInd l h s
  | .adcAbs l h => Sys2Proof.Machine.execAdcAbs l h s
  | .rorAbs l h => Sys2Proof.Machine.execRorAbs l h s
  | .rraAbs l h => Sys2Proof.Machine.execRraAbs l h s
  | .bvsRel o => Sys2Proof.Machine.execBvsRel o s
  | .adcIndy a => Sys2Proof.Machine.execAdcIndy a s
  | .rraIndy a => Sys2Proof.Machine.execRraIndy a s
  | .nopZpx74 a => Sys2Proof.Machine.execNopZpx74 a s
  | .adcZpx a => Sys2Proof.Machine.execAdcZpx a s
  | .rorZpx a => Sys2Proof.Machine.execRorZpx a s
  | .rraZpx a => Sys2Proof.Machine.execRraZpx a s
  | .adcAbsy l h => Sys2Proof.Machine.execAdcAbsy l h s
  | .rraAbsy l h => Sys2Proof.Machine.execRraAbsy l h s
  | .nopAbsx7C l h => Sys2Proof.Machine.execNopAbsx7C l h s
  | .adcAbsx l h => Sys2Proof.Machine.execAdcAbsx l h s
  | .rorAbsx l h => Sys2Proof.Machine.execRorAbsx l h s
  | .rraAbsx l h => Sys2Proof.Machine.execRraAbsx l h s
  | .nopImm80 b => Sys2Proof.Machine.execNopImm80 b s
  | .staIndx a => Sys2Proof.Machine.execStaIndx a s
  | .nopImm82 b => Sys2Proof.Machine.execNopImm82 b s
  | .saxIndx a => Sys2Proof.Machine.execSaxIndx a s
  | .styZp a => Sys2Proof.Machine.execStyZp a s
  | .staZp a => Sys2Proof.Machine.execStaZp a s
  | .stxZp a => Sys2Proof.Machine.execStxZp a s
  | .saxZp a => Sys2Proof.Machine.execSaxZp a s
  | .nopImm89 b => Sys2Proof.Machine.execNopImm89 b s
  | .styAbs l h => Sys2Proof.Machine.execStyAbs l h s
  | .staAbs l h => Sys2Proof.Machine.execStaAbs l h s
  | .stxAbs l h => Sys2Proof.Machine.execStxAbs l h s
  | .saxAbs l h => Sys2Proof.Machine.execSaxAbs l h s
  | .bccRel o => Sys2Proof.Machine.execBccRel o s
  | .staIndy a => Sys2Proof.Machine.execStaIndy a s
  | .styZpx a => Sys2Proof.Machine.execStyZpx a s
  | .staZpx a => Sys2Proof.Machine.execStaZpx a s
  | .stxZpy a => Sys2Proof.Machine.execStxZpy a s
  | .saxZpy a => Sys2Proof.Machine.execSaxZpy a s
  | .staAbsy l h => Sys2Proof.Machine.execStaAbsy l h s
  | .staAbsx l h => Sys2Proof.Machine.execStaAbsx l h s
  | .ldyImm b => Sys2Proof.Machine.execLdyImm b s
  | .ldaIndx a => Sys2Proof.Machine.execLdaIndx a s
  | .ldxImm b => Sys2Proof.Machine.execLdxImm b s
  | .laxIndx a => Sys2Proof.Machine.execLaxIndx a s
  | .ldyZp a => Sys2Proof.Machine.execLdyZp a s
  | .ldaZp a => Sys2Proof.Machine.execLdaZp a s
  | .ldxZp a => Sys2Proof.Machine.execLdxZp a s
  | .laxZp a => Sys2Proof.Machine.execLaxZp a s
  | .ldaImm b => Sys2Proof.Machine.execLdaImm b s
  | .ldyAbs l h => Sys2Proof.Machine.execLdyAbs l h s
  | .ldaAbs l h => Sys2Proof.Machine.execLdaAbs l h s
  | .ldxAbs l h => Sys2Proof.Machine.execLdxAbs l h s
  | .laxAbs l h => Sys2Proof.Machine.execLaxAbs l h s
  | .bcsRel o => Sys2Proof.Machine.execBcsRel o s
  | .ldaIndy a => Sys2Proof.Machine.execLdaIndy a s
  | .laxIndy a => Sys2Proof.Machine.execLaxIndy a s
  | .ldyZpx a => Sys2Proof.Machine.execLdyZpx a s
  | .ldaZpx a => Sys2Proof.Machine.execLdaZpx a s
  | .ldxZpy a => Sys2Proof.Machine.execLdxZpy a s
  | .laxZpy a => Sys2Proof.Machine.execLaxZpy a s
  | .ldaAbsy l h => Sys2Proof.Machine.execLdaAbsy l h s
  | .ldyAbsx l h => Sys2Proof.Machine.execLdyAbsx l h s
  | .ldaAbsx l h => Sys2Proof.Machine.execLdaAbsx l h s
  | .ldxAbsy l h => Sys2Proof.Machine.execLdxAbsy l h s
  | .laxAbsy l h => Sys2Proof.Machine.execLaxAbsy l h s
  | .cpyImm b => Sys2Proof.Machine.execCpyImm b s
  | .cmpIndx a => Sys2Proof.Machine.execCmpIndx a s
  | .nopImmC2 b => Sys2Proof.Machine.execNopImmC2 b s
  | .dcpIndx a => Sys2Proof.Machine.execDcpIndx a s
  | .cpyZp a => Sys2Proof.Machine.execCpyZp a s
  | .cmpZp a => Sys2Proof.Machine.execCmpZp a s
  | .decZp a => Sys2Proof.Machine.execDecZp a s
  | .dcpZp a => Sys2Proof.Machine.execDcpZp a s
  | .cmpImm b => Sys2Proof.Machine.execCmpImm b s
  | .cpyAbs l h => Sys2Proof.Machine.execCpyAbs l h s
  | .cmpAbs l h => Sys2Proof.Machine.execCmpAbs l h s
  | .decAbs l h => Sys2Proof.Machine.execDecAbs l h s
  | .dcpAbs l h => Sys2Proof.Machine.execDcpAbs l h s
  | .bneRel o => Sys2Proof.Machine.execBneRel o s
  | .cmpIndy a => Sys2Proof.Machine.execCmpIndy a s
  | .dcpIndy a => Sys2Proof.Machine.execDcpIndy a s
  | .nopZpxD4 a => Sys2Proof.Machine.execNopZpxD4 a s
  | .cmpZpx a => Sys2Proof.Machine.execCmpZpx a s
  | .decZpx a => Sys2Proof.Machine.execDecZpx a s
  | .dcpZpx a => Sys2Proof.Machine.execDcpZpx a s
  | .cmpAbsy l h => Sys2Proof.Machine.execCmpAbsy l h s
  | .dcpAbsy l h => Sys2Proof.Machine.execDcpAbsy l h s
  | .nopAbsxDC l h => Sys2Proof.Machine.execNopAbsxDC l h s
  | .cmpAbsx l h => Sys2Proof.Machine.execCmpAbsx l h s
  | .decAbsx l h => Sys2Proof.Machine.execDecAbsx l h s
  | .dcpAbsx l h => Sys2Proof.Machine.execDcpAbsx l h s
  | .cpxImm b => Sys2Proof.Machine.execCpxImm b s
  | .sbcIndx a => Sys2Proof.Machine.execSbcIndx a s
  | .nopImmE2 b => Sys2Proof.Machine.execNopImmE2 b s
  | .isbIndx a => Sys2Proof.Machine.execIsbIndx a s
  | .cpxZp a => Sys2Proof.Machine.execCpxZp a s
  | .sbcZp a => Sys2Proof.Machine.execSbcZp a s
  | .incZp a => Sys2Proof.Machine.execIncZp a s
  | .isbZp a => Sys2Proof.Machine.execIsbZp a s
  | .sbcImm b => Sys2Proof.Machine.execSbcImm b s
  | .sbcImmEB b => Sys2Proof.Machine.execSbcImmEB b s
  | .cpxAbs l h => Sys2Proof.Machine.execCpxAbs l h s
  | .sbcAbs l h => Sys2Proof.Machine.execSbcAbs l h s
  | .incAbs l h => Sys2Proof.Machine.execIncAbs l h s
  | .isbAbs l h => Sys2Proof.Machine.execIsbAbs l h s
  | .beqRel o => Sys2Proof.Machine.execBeqRel o s
  | .sbcIndy a => Sys2Proof.Machine.execSbcIndy a s
  | .isbIndy a => Sys2Proof.Machine.execIsbIndy a s
  | .nopZpxF4 a => Sys2Proof.Machine.execNopZpxF4 a s
  | .sbcZpx a => Sys2Proof.Machine.execSbcZpx a s
  | .incZpx a => Sys2Proof.Machine.execIncZpx a s
  | .isbZpx a => Sys2Proof.Machine.execIsbZpx a s
  | .sbcAbsy l h => Sys2Proof.Machine.execSbcAbsy l h s
  | .isbAbsy l h => Sys2Proof.Machine.execIsbAbsy l h s
  | .nopAbsxFC l h => Sys2Proof.Machine.execNopAbsxFC l h s
  | .sbcAbsx l h => Sys2Proof.Machine.execSbcAbsx l h s
  | .incAbsx l h => Sys2Proof.Machine.execIncAbsx l h s
  | .isbAbsx l h => Sys2Proof.Machine.execIsbAbsx l h s
  | .brk => Sys2Proof.Machine.execBrk s
  | .undef02 => Sys2Proof.Machine.execUndef02 s
  | .php => Sys2Proof.Machine.execPhp s
  | .aslAcc => Sys2Proof.Machine.execAslAcc s
  | .undef0B => Sys2Proof.Machine.execUndef0B s
  | .undef12 => Sys2Proof.Machine.execUndef12 s
  | .clc => Sys2Proof.Machine.execClc s
  | .nopImp1A => Sys2Proof.Machine.execNopImp1A s
  | .undef22 => Sys2Proof.Machine.execUndef22 s
  | .plp => Sys2Proof.Machine.execPlp s
  | .rolAcc => Sys2Proof.Machine.execRolAcc s
  | .undef2B => Sys2Proof.Machine.execUndef2B s
  | .undef32 => Sys2Proof.Machine.execUndef32 s
  | .sec => Sys2Proof.Machine.execSec s
  | .nopImp3A => Sys2Proof.Machine.execNopImp3A s
  | .rti => Sys2Proof.Machine.execRti s
  | .undef42 => Sys2Proof.Machine.execUndef42 s
  | .pha => Sys2Proof.Machine.execPha s
  | .lsrAcc => Sys2Proof.Machine.execLsrAcc s
  | .undef4B => Sys2Proof.Machine.execUndef4B s
  | .undef52 => Sys2Proof.Machine.execUndef52 s
  | .cli => Sys2Proof.Machine.execCli s
  | .nopImp5A => Sys2Proof.Machine.execNopImp5A s
  | .rts => Sys2Proof.Machine.execRts s
  | .undef62 => Sys2Proof.Machine.execUndef62 s
  | .pla => Sys2Proof.Machine.execPla s
  | .rorAcc => Sys2Proof.Machine.execRorAcc s
  | .undef6B => Sys2Proof.Machine.execUndef6B s
  | .undef72 => Sys2Proof.Machine.execUndef72 s
  | .sei => Sys2Proof.Machine.execSei s
  | .nopImp7A => Sys2Proof.Machine.execNopImp7A s
  | .dey => Sys2Proof.Machine.execDey s
  | .txa => Sys2Proof.Machine.execTxa s
  | .undef8B => Sys2Proof.Machine.execUndef8B s
  | .undef92 => Sys2Proof.Machine.execUndef92 s
  | .undef93 => Sys2Proof.Machine.execUndef93 s
  | .tya => Sys2Proof.Machine.execTya s
  | .txs => Sys2Proof.Machine.execTxs s
  | .undef9B => Sys2Proof.Machine.execUndef9B s
  | .undef9C => Sys2Proof.Machine.execUndef9C s
  | .undef9E => Sys2Proof.Machine.execUndef9E s
  | .undef9F => Sys2Proof.Machine.execUndef9F s
  | .tay => Sys2Proof.Machine.execTay s
  | .tax => Sys2Proof.Machine.execTax s
  | .undefAB => Sys2Proof.Machine.execUndefAB s
  | .undefB2 => Sys2Proof.Machine.execUndefB2 s
  | .clv => Sys2Proof.Machine.execClv s
  | .tsx => Sys2Proof.Machine.execTsx s
  | .undefBB => Sys2Proof.Machine.execUndefBB s
  | .iny => Sys2Proof.Machine.execIny s
  | .dex => Sys2Proof.Machine.execDex s
  | .undefCB => Sys2Proof.Machine.execUndefCB s
  | .undefD2 => Sys2Proof.Machine.execUndefD2 s
  | .cld => Sys2Proof.Machine.execCld s
  | .nopImpDA => Sys2Proof.Machine.execNopImpDA s
  | .inx => Sys2Proof.Machine.execInx s
  | .nop => Sys2Proof.Machine.execNop s
  | .undefF2 => Sys2Proof.Machine.execUndefF2 s
  | .sed => Sys2Proof.Machine.execSed s
  | .nopImpFA => Sys2Proof.Machine.execNopImpFA s

end Sys2Proof.Machine
end

