-- ==== Sys2Proof/Machine/Fetch.lean ====
section
/-! DEFINITION. Fetching an instruction: the opcode, the check that it executes, and the operand bytes, each a CPU bus
read at the PC (60_exceptions.md R332, 40_addressing_modes.md R122-R132); and where the host puts an instruction for
the next step to fetch. -/

namespace Sys2Proof.Machine

/-- Read the byte at the PC and advance the PC past it (R332, R122). -/
def fetchByte (s : State) : Res Byte :=
  (memRead s.cpu.pc s).andThen fun b t => .ok b (t.setPc (t.cpu.pc + 1))

/-- Read the two operand bytes at the PC, low first, then advance the PC past both (R126, R71, log 13). -/
def fetchPair (s : State) : Res (Byte × Byte) :=
  (memRead s.cpu.pc s).andThen fun l t =>
    (memRead (t.cpu.pc + 1) t).andThen fun h u => .ok (l, h) (u.setPc (u.cpu.pc + 2))

/-- The instruction of an opcode byte whose operand bytes stand at the PC (R100, R332). -/
def fetchOperand (op : Byte) (s : State) : Res Instr :=
  match mapCell op with
  | .op0 i => .ok i s
  | .op1 f => (fetchByte s).andThen fun b t => .ok (f b) t
  | .op2 f => (fetchPair s).andThen fun p t => .ok (f p.1 p.2) t

/-- Fetch the opcode, raise where it does not execute, and fetch the operand bytes (R332, R106). -/
def fetchInstr (s : State) : Res Instr :=
  (fetchByte s).andThen fun op t =>
    if t.cfg.enabled op then fetchOperand op t
    else (undefinedOpcode op t).andThen fun _ u => fetchOperand op u

/-- The host can store a byte where a fetch from `a` reads it: RAM, or the default cartridge's program ROM. -/
def storable (cfg : Config) (a : Word) : Bool :=
  decide (a.toNat ≤ 0x1FFF) || (cfg.cart == .nrom && decide (0x8000 ≤ a.toNat))

/-- The state with `b` where a fetch from a storable `a` reads it. -/
def plant (a : Word) (b : Byte) (s : State) : State :=
  if a.toNat ≤ 0x1FFF then s.setRam (s.ram.write (ramIndex a) b)
  else s.setCart { s.cart with prg := s.cart.prg.write (prgOffset s.cfg a) b }

/-- The state with bytes planted at increasing addresses. -/
def plantAll : Word → List Byte → State → State
  | _, [], s => s
  | a, b :: rest, s => plantAll (a + 1) rest (plant a b s)

/-- The PC, or 0x0200 where an instruction at the PC would not lie in storable bytes (log 10). -/
def plantPc (s : State) : Word :=
  if storable s.cfg s.cpu.pc && storable s.cfg (s.cpu.pc + 1) && storable s.cfg (s.cpu.pc + 2) then s.cpu.pc
  else 0x0200

/-- `UNDOC_ENABLED` with an undocumented opcode added, so that the step runs it (R240, log 10). -/
def enabling (cfg : Config) (op : Byte) : Config :=
  if undocumentedBytes.contains op && !cfg.undocEnabled.contains op
  then { cfg with undocEnabled := op :: cfg.undocEnabled } else cfg

end Sys2Proof.Machine
end

