-- ==== Sys2Proof/Machine/Interrupt.lean ====
section
/-! DEFINITION. The interrupt entries and the request operations (spec/60_exceptions.md R333-R336,
70_reset_and_hazards.md R361). -/

namespace Sys2Proof.Machine

/-- `ResetEntry()` (R333): nothing is pushed and S is unchanged. -/
def resetEntry (s : State) : Res Unit :=
  (read16 resetVector s).andThen fun pc t =>
    .ok () (((((t.setPc pc).setI true).setResetPending false).setNmiPending false).setServicing false)

/-- `NmiEntry()` (R334). -/
def nmiEntry (s : State) : Res Unit :=
  (enterVector s.cpu.pc false nmiVector s).andThen fun _ t =>
    .ok () ((t.setNmiPending false).setServicing true)

/-- `IrqEntry()` (R335). -/
def irqEntry (s : State) : Res Unit :=
  match s.cfg.irqEntry with
  | .fatal => .raise (.irqUnimplemented s.cpu.pc) s
  | .service =>
    (enterVector s.cpu.pc false irqVector s).andThen fun _ t => .ok () (t.setServicing true)

/-- `IRQ_LINE(n)` (R31). -/
def irqLineAt (l : IrqLine) (n : Nat) : Bool := l.levels.getD n l.after

/-- The CPU step takes the NMI: pending, and not held back (R332, R341). -/
def takesNmi (s : State) : Bool :=
  s.cpu.nmiPending && (!s.cpu.servicing || s.cfg.nmiNesting == .nest)

/-- The CPU step takes the IRQ: line asserted, I = 0, nothing being serviced (R332, R337). -/
def takesIrq (s : State) : Bool :=
  irqLineAt s.cfg.irqLine s.cpuSteps && !s.cpu.flags.i && !s.cpu.servicing

/-- `RequestNmi()` (R336). -/
def requestNmi (s : State) : Res Unit :=
  if s.cpu.nmiPending then .raise .nmiDoubleRequest s else .ok () (s.setNmiPending true)

/-- `HostReset()` (R361). -/
def hostReset (s : State) : State := s.setResetPending true

end Sys2Proof.Machine
end

