-- ==== Sys2Proof/Machine/Timing.lean ====
section
/-! DEFINITION. The cycle count of a CPU step (spec/70_reset_and_hazards.md R370-R374, 40_addressing_modes.md R133). -/

namespace Sys2Proof.Machine

/-- Base costs of opcodes 0x (R370); 0 stands at an undefined byte, which reports nothing. -/
def baseRow0 : Vector Nat 16 := #v[7, 6, 0, 8, 3, 3, 5, 5, 3, 2, 2, 0, 4, 4, 6, 6]

/-- Base costs of opcodes 1x (R370); 0 stands at an undefined byte, which reports nothing. -/
def baseRow1 : Vector Nat 16 := #v[2, 5, 0, 8, 4, 4, 6, 6, 2, 4, 2, 7, 4, 4, 7, 7]

/-- Base costs of opcodes 2x (R370); 0 stands at an undefined byte, which reports nothing. -/
def baseRow2 : Vector Nat 16 := #v[6, 6, 0, 8, 3, 3, 5, 5, 4, 2, 2, 0, 4, 4, 6, 6]

/-- Base costs of opcodes 3x (R370); 0 stands at an undefined byte, which reports nothing. -/
def baseRow3 : Vector Nat 16 := #v[2, 5, 0, 8, 4, 4, 6, 6, 2, 4, 2, 7, 4, 4, 7, 7]

/-- Base costs of opcodes 4x (R370); 0 stands at an undefined byte, which reports nothing. -/
def baseRow4 : Vector Nat 16 := #v[6, 6, 0, 8, 3, 3, 5, 5, 3, 2, 2, 0, 3, 4, 6, 6]

/-- Base costs of opcodes 5x (R370); 0 stands at an undefined byte, which reports nothing. -/
def baseRow5 : Vector Nat 16 := #v[2, 5, 0, 8, 4, 4, 6, 6, 2, 4, 2, 7, 4, 4, 7, 7]

/-- Base costs of opcodes 6x (R370); 0 stands at an undefined byte, which reports nothing. -/
def baseRow6 : Vector Nat 16 := #v[6, 6, 0, 8, 3, 3, 5, 5, 4, 2, 2, 0, 5, 4, 6, 6]

/-- Base costs of opcodes 7x (R370); 0 stands at an undefined byte, which reports nothing. -/
def baseRow7 : Vector Nat 16 := #v[2, 5, 0, 8, 4, 4, 6, 6, 2, 4, 2, 7, 4, 4, 7, 7]

/-- Base costs of opcodes 8x (R370); 0 stands at an undefined byte, which reports nothing. -/
def baseRow8 : Vector Nat 16 := #v[2, 6, 2, 6, 3, 3, 3, 3, 2, 2, 2, 0, 4, 4, 4, 4]

/-- Base costs of opcodes 9x (R370); 0 stands at an undefined byte, which reports nothing. -/
def baseRow9 : Vector Nat 16 := #v[2, 6, 0, 0, 4, 4, 4, 4, 2, 5, 2, 0, 0, 5, 0, 0]

/-- Base costs of opcodes Ax (R370); 0 stands at an undefined byte, which reports nothing. -/
def baseRowA : Vector Nat 16 := #v[2, 6, 2, 6, 3, 3, 3, 3, 2, 2, 2, 0, 4, 4, 4, 4]

/-- Base costs of opcodes Bx (R370); 0 stands at an undefined byte, which reports nothing. -/
def baseRowB : Vector Nat 16 := #v[2, 5, 0, 5, 4, 4, 4, 4, 2, 4, 2, 0, 4, 4, 4, 4]

/-- Base costs of opcodes Cx (R370); 0 stands at an undefined byte, which reports nothing. -/
def baseRowC : Vector Nat 16 := #v[2, 6, 2, 8, 3, 3, 5, 5, 2, 2, 2, 0, 4, 4, 6, 6]

/-- Base costs of opcodes Dx (R370); 0 stands at an undefined byte, which reports nothing. -/
def baseRowD : Vector Nat 16 := #v[2, 5, 0, 8, 4, 4, 6, 6, 2, 4, 2, 7, 4, 4, 7, 7]

/-- Base costs of opcodes Ex (R370); 0 stands at an undefined byte, which reports nothing. -/
def baseRowE : Vector Nat 16 := #v[2, 6, 2, 8, 3, 3, 5, 5, 2, 2, 2, 2, 4, 4, 6, 6]

/-- Base costs of opcodes Fx (R370); 0 stands at an undefined byte, which reports nothing. -/
def baseRowF : Vector Nat 16 := #v[2, 5, 0, 8, 4, 4, 6, 6, 2, 4, 2, 7, 4, 4, 7, 7]

/-- The base cycle table: row = high nibble, column = low nibble (R370). -/
def baseTable : Vector (Vector Nat 16) 16 := #v[
  baseRow0, baseRow1, baseRow2, baseRow3, baseRow4, baseRow5, baseRow6, baseRow7,
  baseRow8, baseRow9, baseRowA, baseRowB, baseRowC, baseRowD, baseRowE, baseRowF]

/-- `base_cycles(op)` (R370). -/
def baseCycles (op : Byte) : Nat :=
  (baseTable[op.toNat / 16]'(by omega))[op.toNat % 16]'(by omega)

/-- `page_cross_penalty`: exactly the absolute indexed rows whose base cost is 4 and the (zp),Y rows whose base cost is
5 (R133). -/
def hasPenalty (i : Instr) : Bool :=
  match i.operand with
  | .absx _ _ => baseCycles i.opcode == 4
  | .absy _ _ => baseCycles i.opcode == 4
  | .indy _ => baseCycles i.opcode == 5
  | .imp | .acc | .imm _ | .zp _ | .zpx _ | .zpy _ | .abs _ _ | .ind _ _ | .indx _ | .rel _ => false

/-- One of the eight branches. -/
def isBranch (i : Instr) : Bool :=
  match i.operand with
  | .rel _ => true
  | .imp | .acc | .imm _ | .zp _ | .zpx _ | .zpy _ | .abs _ _ | .absx _ _ | .absy _ _ | .ind _ _ | .indx _ | .indy _ =>
    false

/-- `BranchExtra(op, crossed, taken)` (R372). -/
def branchExtra (timing : BranchTiming) (i : Instr) (c : Scratch) : Nat :=
  match timing with
  | .sourceRule => 0
  | .nmos => if isBranch i then bit c.taken + bit (c.taken && c.crossed) else 0

/-- `Cost(op, crossed, taken, dma_stall)` (R371). -/
def cost (timing : BranchTiming) (i : Instr) (c : Scratch) : Nat :=
  baseCycles i.opcode + bit (hasPenalty i && c.crossed) + branchExtra timing i c + c.dmaStall

end Sys2Proof.Machine
end

