-- ==== Sys2Proof/Machine/CpuStep.lean ====
section
/-! DEFINITION. The CPU's step (60_exceptions.md R332): an interrupt entry or one instruction, and the cycles it reports
to the driver (10_state.md R33, R45). -/

namespace Sys2Proof.Machine

/-- The per-step scratch at the start of a CPU step (R332, R33). -/
def State.beginStep (s : State) : State := s.setScratch { crossed := false, taken := false, dmaStall := 0 }

/-- The driver adds the cycles a completed step reports, and the step is counted (R320, R332). -/
def State.charge (s : State) (cycles : Nat) : State :=
  { s.setDrv { s.drv with acc := s.drv.acc + cycles } with cpuSteps := s.cpuSteps + 1 }

/-- A CPU step's outcome with its cycles charged; a step that raises reports nothing (R371). -/
def report (cycles : State → Nat) (o : Outcome) : Outcome :=
  match o with
  | .next t => .next (t.charge (cycles t))
  | .fault f => .fault f
  | .refused r => .refused r

/-- Fetch, resolve and execute one instruction (R332). -/
def instructionStep (s : State) : Outcome :=
  match fetchInstr s with
  | .ok i t => report (fun u => cost u.cfg.branchTiming i u.scratch) (exec i t)
  | .raise k t => .fault (.fatal k (t.halt k))

/-- `CpuStep()` with the driver's charge: reset before NMI before IRQ before an instruction (R332, R337). -/
def cpuStep (s : State) : Outcome :=
  let t := s.beginStep
  if t.cpu.resetPending then report (fun _ => Config.interruptCost) (resetEntry t).toOutcome
  else if takesNmi t then report (fun _ => Config.interruptCost) (nmiEntry t).toOutcome
  else if takesIrq t then report (fun _ => Config.interruptCost) (irqEntry t).toOutcome
  else instructionStep t

end Sys2Proof.Machine
end

