-- ==== Sys2Proof/Machine/Render.lean ====
section
/-! DEFINITION. The PPU raster: one visible scanline drawn into the pixel buffer (spec/51_ppu_rendering.md). -/

namespace Sys2Proof.Machine

/-- A byte of `fb` by the spec's own index `3*(row*256 + col) + k` (R43). -/
def fbByte (fb : PixelBuffer) (k : Nat) : Byte := ((fb[k / 768]?).getD []).read (k % 768)

/-- The pixel at (col, row) (R43). -/
def pixelAt (fb : PixelBuffer) (col row : Nat) : Rgb :=
  { r := fbByte fb (3 * (row * 256 + col))
    g := fbByte fb (3 * (row * 256 + col) + 1)
    b := fbByte fb (3 * (row * 256 + col) + 2) }

/-- One pixel's three bytes written into its row, in the order R, G, B (R305). -/
def writePixel (m : Memory) (col : Nat) (c : Rgb) : Memory :=
  ((m.write (3 * col) c.r).write (3 * col + 1) c.g).write (3 * col + 2) c.b

/-- `Colour(p)` (R295). -/
def colour (p : Byte) (s : State) : Res Rgb :=
  if 0x40 ≤ p.toNat then
    match s.cfg.palRange with
    | .fatal => .raise (.paletteRange p) s
    | .mask6 => .ok (s.cfg.systemPalette[p.toNat % 64]'(Nat.mod_lt _ (by decide))) s
  else .ok (s.cfg.systemPalette[p.toNat % 64]'(Nat.mod_lt _ (by decide))) s

/-- The palette byte a palette index shows: `pal[PalIndex(0x3F00 + idx)]` (R294, R305). -/
def palByte (p : Ppu) (idx : Nat) : Byte := p.pal.read (palIndex (0x3F00 + idx))

/-- `SetPixel(col, row, idx)` (R305). -/
def setPixel (col row idx : Nat) (s : State) : Res Unit :=
  (colour (palByte s.ppu idx) s).andThen fun c t =>
    .ok () (t.setFb (t.fb.setIfInBounds row (writePixel ((t.fb[row]?).getD []) col c)))

/-- `PixelBits(lo, hi, b)` (R293). -/
def pixelBits (lo hi : Byte) (b : Nat) : Nat := bit (hi.getLsbD b) * 2 + bit (lo.getLsbD b)

/-- `AttrGroup(at, row, col)` (R292). -/
def attrGroup (attr : Byte) (row col : Nat) : Nat :=
  (attr.toNat / 2 ^ (row / 2 % 2 * 4 + col / 2 % 2 * 2)) % 4

/-- `BgPalIndex(group, c)` (R294), with the gate of mask bit 3 (R297). -/
def bgPalIndex (p : Ppu) (group c : Nat) : Nat :=
  if c = 0 ∨ p.mask.getLsbD 3 = false then 0 else group * 4 + c

/-- The nametable base: `0x2000 + 0x400 * ctrl[1:0]` (R291). -/
def ntBase (p : Ppu) : Nat := 0x2000 + 0x400 * (p.ctrl.toNat % 4)

/-- The background pattern table (R291). -/
def bgTable (p : Ppu) : Nat := bit (p.ctrl.getLsbD 4) * 0x1000

/-- One tile column of the background: its four reads and its eight pixels (R291). -/
def backgroundTile (sl col : Nat) (s : State) : Res Unit :=
  let row := sl / 8
  let fy := sl % 8
  (ppuRead (BitVec.ofNat 16 (ntBase s.ppu + row * 32 + col)) s).andThen fun tile s =>
  (ppuRead (BitVec.ofNat 16 (bgTable s.ppu + tile.toNat * 16 + fy)) s).andThen fun lo s =>
  (ppuRead (BitVec.ofNat 16 (bgTable s.ppu + tile.toNat * 16 + fy + 8)) s).andThen fun hi s =>
  (ppuRead (BitVec.ofNat 16 (ntBase s.ppu + 0x3C0 + row / 4 * 8 + col / 4)) s).andThen fun attr s =>
  forEach (List.range 8)
    (fun px t => setPixel (col * 8 + px) sl
      (bgPalIndex t.ppu (attrGroup attr row col) (pixelBits lo hi (7 - px))) t) s

/-- `BackgroundPass(sl)` (R291). -/
def backgroundPass (sl : Nat) (s : State) : Res Unit := forEach (List.range 32) (backgroundTile sl) s

/-- The sprite height (R298). -/
def spriteHeight (p : Ppu) : Nat := if p.ctrl.getLsbD 5 then 16 else 8

/-- Sprite `i` is visible on scanline `sl` (R298). -/
def spriteVisible (p : Ppu) (sl i : Nat) : Bool :=
  let y := (p.oam.read (4 * i)).toNat
  decide (y + 1 ≤ sl) && decide (sl < y + 1 + spriteHeight p)

/-- The first eight visible sprites in index order (R298, R299). -/
def visibleSprites (p : Ppu) (sl : Nat) : List Nat := ((List.range 64).filter (spriteVisible p sl)).take 8

/-- The order the visible sprites are drawn in (R298, R304). -/
def drawOrder (o : SpriteOrder) (l : List Nat) : List Nat :=
  match o with
  | .laterDrawnWins => l
  | .lowerIndexWins => l.reverse

/-- `Addr16(tile, r)` (R301). -/
def addr16 (tile r : Nat) : Nat := tile % 2 * 0x1000 + (tile / 2 * 2 + r / 8) * 16 + r % 8

/-- The pattern row a sprite shows on a scanline, after the vertical flip (R300, R302). -/
def spriteRow (p : Ppu) (sl i : Nat) : Nat :=
  let r := sl - ((p.oam.read (4 * i)).toNat + 1)
  if (p.oam.read (4 * i + 2)).getLsbD 7 then spriteHeight p - 1 - r else r

/-- The pattern address of that row (R300, R301). -/
def spriteAddr (p : Ppu) (sl i : Nat) : Nat :=
  let tile := (p.oam.read (4 * i + 1)).toNat
  if spriteHeight p = 8 then bit (p.ctrl.getLsbD 3) * 0x1000 + tile * 16 + spriteRow p sl i
  else addr16 tile (spriteRow p sl i)

/-- `DrawSpriteRow(i, sl, h)` (R300, R302, R303). -/
def drawSpriteRow (sl i : Nat) (s : State) : Res Unit :=
  let attr := s.ppu.oam.read (4 * i + 2)
  let sx := (s.ppu.oam.read (4 * i + 3)).toNat
  let addr := spriteAddr s.ppu sl i
  (ppuRead (BitVec.ofNat 16 addr) s).andThen fun lo s =>
  (ppuRead (BitVec.ofNat 16 (addr + 8)) s).andThen fun hi s =>
  forEach (List.range 8)
    (fun px t =>
      let c := pixelBits lo hi (if attr.getLsbD 6 then px else 7 - px)
      if c ≠ 0 ∧ sx + px ≤ 255 then setPixel (sx + px) sl (0x10 + attr.toNat % 4 * 4 + c) t else .ok () t) s

/-- `SpritePass(sl)` (R298). -/
def spritePass (sl : Nat) (s : State) : Res Unit :=
  forEach (drawOrder s.cfg.spriteOrder (visibleSprites s.ppu sl)) (drawSpriteRow sl) s

/-- `RenderScanline(sl)` (R290). -/
def renderScanline (sl : Nat) (s : State) : Res Unit :=
  (backgroundPass sl s).andThen fun _ t =>
    if t.ppu.mask.getLsbD 4 then spritePass sl t else .ok () t

end Sys2Proof.Machine
end

