-- ==== Sys2Proof/Machine/Drive.lean ====
section
/-! DEFINITION. The frame driver's own actions and the host's calls (spec/52_controller_dma_driver.md R320-R324), each a
part of `RunFrame` (log 5). -/

namespace Sys2Proof.Machine

/-- One call of the host (R310, R361). -/
def hostCall (s : State) (c : HostCall) : State :=
  match c with
  | .update button pressed => s.setCtl (s.ctl.update button pressed)
  | .hostReset => hostReset s

/-- The calls the host makes before this step, taken off the queue (R324, log 6). -/
def hostCalls (s : State) : State :=
  match s.host with
  | [] => s
  | now :: later => now.foldl hostCall { s with host := later }

/-- The scanline after `sl`; the run repeats `RunFrame` (R320, R325). -/
def nextLine (cfg : Config) (sl : Nat) : Nat := if sl + 1 < cfg.scanlinesPerFrame then sl + 1 else 0

/-- The vblank set and the NMI request at the start of line 241 (R320, R274). -/
def vblankStart (s : State) : Res Unit :=
  let t := s.setPpu (s.ppu.setVblank true)
  if t.ppu.nmiEnabled then requestNmi t else .ok () t

/-- The start of scanline `sl`: its events, then its cycle budget (R320, R321). -/
def startLine (sl : Nat) (s : State) : Res Unit :=
  let t := s.setDrv { s.drv with line := sl }
  (if sl = Config.vblankSetLine then vblankStart t else .ok () t).andThen fun _ u =>
    let w := if sl = u.cfg.vblankClearLine then u.setPpu (u.ppu.setVblank false) else u
    .ok () (w.setDrv { w.drv with phase := .cpu })

/-- The budget is spent: it is charged, and a visible line is rendered next (R320, R322). -/
def endBudget (s : State) : State :=
  s.setDrv
    { s.drv with
      acc := s.drv.acc - s.cfg.cyclesPerScanline
      phase := if s.drv.line ≤ Config.lastVisibleLine then .raster else .startLine (nextLine s.cfg s.drv.line) }

/-- The raster's step (R290), after which the next scanline starts (R320). -/
def rasterStep (s : State) : Res Unit :=
  (renderScanline s.drv.line s).andThen fun _ t =>
    .ok () (t.setDrv { t.drv with phase := .startLine (nextLine t.cfg t.drv.line) })

end Sys2Proof.Machine
end

