-- ==== Sys2Proof/Machine/Step.lean ====
section
/-! DEFINITION. One step of the machine: the host's calls before it, then one action of the driver, the CPU or the
raster, as `RunFrame` orders them (52_controller_dma_driver.md R320-R325; log 5, log 6). -/

namespace Sys2Proof.Machine

/-- One step. A halted machine stays halted (R331). -/
def step (s : State) : Host.Outcome State Fault Refusal :=
  let t := hostCalls s
  match t.fault with
  | some k => .fault (.fatal k t)
  | none =>
    match t.drv.phase with
    | .startLine sl => (startLine sl t).toOutcome
    | .cpu => if t.drv.acc < t.cfg.cyclesPerScanline then cpuStep t else .next (endBudget t)
    | .raster => (rasterStep t).toOutcome

/-- `s` with an instruction's bytes where the next step fetches it, and with what that fetch takes: no halt, no interrupt
ahead of the instruction, the driver in a scanline's cycle budget, and an undocumented opcode enabled (log 10). -/
def State.withFetchWord (s : State) (nbits w : Nat) : State :=
  let pc := plantPc s
  let cfg := enabling s.cfg (tableByte (w % 2 ^ nbits) 0)
  plantAll pc (tableBytes nbits w)
    { s with
      cpu := { s.cpu with pc := pc, resetPending := false, nmiPending := false }
      fault := none
      drv := { s.drv with acc := if s.drv.acc < cfg.cyclesPerScanline then s.drv.acc else 0, phase := .cpu }
      host := s.host.set 0 []
      cfg := { cfg with irqLine := if takesIrq s then {} else cfg.irqLine } }

end Sys2Proof.Machine
end

