-- ==== Sys2Proof/WellFormed.lean ====
section
/-! DEFINITION. Well-formedness. An instruction's operand bytes can hold any value (30_encoding.md R100), so what is left
to check is that its opcode byte is one that executes: 00_scope.md R7 and R104 make that a question of `UNDOC_ENABLED`.
A setting of the parameters is well-formed when it is one R7 allows. -/

namespace Sys2Proof

/-- The instruction's opcode byte executes under `cfg` (R104, R106, R240). -/
def Instr.wellFormed (cfg : Config) (i : Instr) : Bool := cfg.enabled i.opcode

/-- `UNDOC_ENABLED` is a set of undocumented bytes (R240): none outside the 80, none twice. -/
def Config.undocWf (cfg : Config) : Bool :=
  cfg.undocEnabled.all undocumentedBytes.contains && decide cfg.undocEnabled.Nodup

/-- The driver's loops of R320 have a line to run and a budget to spend (log 18). -/
def Config.driverWf (cfg : Config) : Bool :=
  decide (0 < cfg.cyclesPerScanline) && decide (0 < cfg.scanlinesPerFrame)

/-- The setting is one that R7 allows. -/
def Config.wf (cfg : Config) : Bool := cfg.undocWf && cfg.driverWf

end Sys2Proof
end

