-- ==== Sys2Proof/Safety.lean ====
section
/-! DEFINITION. What a safe run is, in the terms the statements use: which bus accesses answer and which raise, when an
operand resolves, where an instruction's bytes stand, when a step runs an instruction, and the invariant of the state. -/

namespace Sys2Proof.Machine

/-! ## Accesses that answer -/

/-- A pattern read answers (R84, R86). -/
def chrReadable (s : State) (a : Word) : Bool :=
  match s.cfg.cart with
  | .nrom => true
  | .external => (Config.cartChrRead s.cart.external a).isSome

/-- A nametable read answers (R84, R87). -/
def ntReadable (s : State) (a : Word) : Bool :=
  match s.cfg.cart with
  | .nrom => true
  | .external => (Config.cartNtRead s.cart.external a).isSome

/-- A PPU bus read below 0x4000 answers (R78). -/
def ppuReadable (s : State) (a : Word) : Bool :=
  if a.toNat ≤ 0x1FFF then chrReadable s a
  else if a.toNat ≤ 0x3EFF then ntReadable s a
  else true

/-- The address in v is not beyond the PPU bus, or is folded onto it (R82). -/
def ppuAddressed (s : State) (v : BitVec 15) : Bool :=
  s.cfg.ppuAddrHigh == .mask14 || decide (v.toNat < 0x4000)

/-- The PPU bus address a Data access at v uses (R82, R271). -/
def dataAddress (v : BitVec 15) : Word := v.setWidth 16 &&& 0x3FFF

/-- A Data read with the VRAM address v answers (R271). -/
def dataReadable (s : State) (v : BitVec 15) : Bool :=
  ppuAddressed s v &&
    (ppuReadable s (dataAddress v) &&
      (decide ((dataAddress v).toNat < 0x3F00) || s.cfg.palReadBuffer == .unchanged ||
        ppuReadable s (dataAddress v - 0x1000)))

/-- A cartridge read over the program window answers (R84, R85, R88). -/
def cartReadable (s : State) (a : Word) : Bool :=
  match s.cfg.cart with
  | .nrom => decide (0x8000 ≤ a.toNat)
  | .external => (Config.cartCpuRead s.cart.external a).isSome

/-- A CPU bus read of `a` answers: it does not raise (R61, R69). -/
def readable (s : State) (a : Word) : Bool :=
  if a.toNat ≤ 0x1FFF then true
  else if a.toNat ≤ 0x3FFF then (if a.toNat % 8 = 7 then dataReadable s s.ppu.v else true)
  else if a.toNat ≤ 0x4017 then true
  else if a.toNat ≤ 0x401F then false
  else cartReadable s a

/-- A pattern write of `v` is accepted (R84, R86). -/
def chrWritable (s : State) (a : Word) (v : Byte) : Bool :=
  match s.cfg.cart with
  | .nrom => s.cfg.chrWrite != .fatal
  | .external => (Config.cartChrWrite s.cart.external a v).isSome

/-- A nametable write of `v` is accepted (R84, R87). -/
def ntWritable (s : State) (a : Word) (v : Byte) : Bool :=
  match s.cfg.cart with
  | .nrom => true
  | .external => (Config.cartNtWrite s.cart.external a v).isSome

/-- A PPU bus write below 0x4000 is accepted (R78). -/
def ppuWritable (s : State) (a : Word) (v : Byte) : Bool :=
  if a.toNat ≤ 0x1FFF then chrWritable s a v
  else if a.toNat ≤ 0x3EFF then ntWritable s a v
  else true

/-- A Data write of `d` is accepted (R270). -/
def dataWritable (s : State) (d : Byte) : Bool :=
  ppuAddressed s s.ppu.v && ppuWritable s (dataAddress s.ppu.v) d

/-- The VRAM address of the Data read number `k` of an OAM DMA from a page of PPU registers (R273, R316). -/
def dmaVram (s : State) (k : Nat) : BitVec 15 :=
  s.ppu.v + BitVec.ofNat 15 (k * (if s.ppu.ctrl.getLsbD 2 then 32 else 1))

/-- Every source read of an OAM DMA from `page` answers (R316). -/
def dmaReadable (s : State) (page : Byte) : Bool :=
  if page.toNat < 0x20 then true
  else if page.toNat < 0x40 then (List.range 32).all fun k => dataReadable s (dmaVram s k)
  else if page.toNat = 0x40 then false
  else (List.range 256).all fun i => cartReadable s (dmaSource page i)

/-- A cartridge write over the program window is accepted (R84, R85, R88). -/
def cartWritable (s : State) (a : Word) (v : Byte) : Bool :=
  match s.cfg.cart with
  | .nrom => decide (0x8000 ≤ a.toNat) && s.cfg.prgWrite == .ignore
  | .external => (Config.cartCpuWrite s.cart.external a v).isSome

/-- A CPU bus write of `v` at `a` is accepted: it does not raise (R61, R70). -/
def writable (s : State) (a : Word) (v : Byte) : Bool :=
  if a.toNat ≤ 0x1FFF then true
  else if a.toNat ≤ 0x3FFF then (if a.toNat % 8 = 7 then dataWritable s v else true)
  else if a.toNat = 0x4014 then dmaReadable s v
  else if a.toNat ≤ 0x4017 then true
  else if a.toNat ≤ 0x401F then false
  else cartWritable s a v

/-! ## Operands -/

/-- The byte of system RAM a CPU address in 0x0000-0x1FFF reaches (R62). -/
def ramByte (s : State) (a : Word) : Byte := s.ram.read (ramIndex a)

/-- The pointer word a page-wrapping read finds at `p` in RAM (R134). -/
def wrappedPointer (s : State) (p : Word) : Word := cat (ramByte s (pageNext p)) (ramByte s p)

/-- The base of an (zp),Y operand (R131). -/
def indirectBase (s : State) (a : Byte) : Word :=
  match s.cfg.indyPtrWrap with
  | .zeroPage => wrappedPointer s (zext16 a)
  | .linear => cat (ramByte s (zext16 a + 1)) (ramByte s (zext16 a))

/-- The effective address of an operand of every mode that has one, but for the jump-indirect mode, whose pointer may
lie anywhere on the bus (R123-R132). -/
def effectiveAddress (o : Operand) (s : State) : Option Word :=
  match o with
  | .imp | .acc | .imm _ | .ind _ _ => none
  | .zp a => some (zext16 a)
  | .zpx a => some (zext16 (a + s.cpu.x))
  | .zpy a => some (zext16 (a + s.cpu.y))
  | .abs l h => some (cat h l)
  | .absx l h => some (cat h l + zext16 s.cpu.x)
  | .absy l h => some (cat h l + zext16 s.cpu.y)
  | .indx a => some (wrappedPointer s (zext16 (a + s.cpu.x)))
  | .indy a => some (indirectBase s a + zext16 s.cpu.y)
  | .rel o => some (s.cpu.pc + sext16 o)

/-- The page-crossing bit of an operand (R127, R128, R131, R132). -/
def crossing (o : Operand) (s : State) : Bool :=
  match o with
  | .imp | .acc | .imm _ | .zp _ | .zpx _ | .zpy _ | .abs _ _ | .ind _ _ | .indx _ => false
  | .absx l _ => decide (0xFF < l.toNat + s.cpu.x.toNat)
  | .absy l _ => decide (0xFF < l.toNat + s.cpu.y.toNat)
  | .indy a => decide (0xFF < (loByte (indirectBase s a)).toNat + s.cpu.y.toNat)
  | .rel o => hiByte s.cpu.pc != hiByte (s.cpu.pc + sext16 o)

/-- The state with an operand resolved: the step's `crossed` is set and nothing else (R120). -/
def resolved (o : Operand) (s : State) : State :=
  { s with scratch := { s.scratch with crossed := crossing o s } }

/-- What reading an operand's value answers: the byte, and the state with the operand resolved and the read's side
effects done (R135, R190). -/
def readOperand (o : Operand) (s : State) : Res Byte :=
  match o with
  | .imm b => .ok b (resolved o s)
  | .acc => .ok s.cpu.a (resolved o s)
  | _ =>
    match effectiveAddress o s with
    | some a => memRead a (resolved o s)
    | none => .ok 0 s

/-- The operand's value can be read (R135). -/
def operandReadable (o : Operand) (s : State) : Bool :=
  match o with
  | .imm _ | .acc => true
  | _ =>
    match effectiveAddress o s with
    | some a => readable s a
    | none => false

/-- A read-modify-write of the byte at `a` completes: the read answers, and the write of the result that `result` gives
in the state the read leaves is accepted (R190). -/
def rmwReady (result : Byte → Byte) (a : Word) (s : State) : Bool :=
  match memRead a s with
  | .ok m t => writable t a (result m)
  | .raise _ _ => false

/-- A read-modify-write instruction completes whenever its operand's read and write are accepted: one read of the
effective address, the C flag written from the value read, one write of the result to the same address, and then the last
change, from the byte written and the state the write leaves (R190). -/
def RmwTo (i : Instr) (s : State) (result : Byte → Byte) (carry : Byte → Bool) (last : Byte → State → State) : Prop :=
  ∀ a, effectiveAddress i.operand s = some a → rmwReady result a (resolved i.operand s) = true →
    ∃ m t u, memRead a (resolved i.operand s) = .ok m t ∧
      memWrite a (result m) { t with cpu := { t.cpu with flags := { t.cpu.flags with c := carry m } } } = .ok () u ∧
      exec i s = .next (last (result m) u)

/-- The byte a read-modify-write instruction writes back, from the C before it and the byte read (R172, R173, R191-R194,
R244-R249); an instruction that is none writes nothing. -/
def rmwResult (op : Mnemonic) (c : Bool) (m : Byte) : Byte :=
  match op with
  | .asl | .slo => m <<< 1
  | .lsr | .sre => m >>> 1
  | .rol | .rla => m <<< 1 ||| (if c then 1 else 0)
  | .ror | .rra => m >>> 1 ||| (if c then 0x80 else 0)
  | .inc | .isb => m + 1
  | .dec | .dcp => m - 1
  | _ => m

/-- The C a read-modify-write instruction has when it writes back: the bit a shift or rotate moved out, and for the rest
the C before it (R190-R194, R244-R249). -/
def rmwCarry (op : Mnemonic) (c : Bool) (m : Byte) : Bool :=
  match op with
  | .asl | .slo | .rol | .rla => m.getLsbD 7
  | .lsr | .sre | .ror | .rra => m.getLsbD 0
  | _ => c

/-- The mnemonics that only read their operand. -/
def readers : List Mnemonic :=
  [.lda, .ldx, .ldy, .lax, .adc, .sbc, .and, .ora, .eor, .cmp, .cpx, .cpy, .bit]

/-- The mnemonics that only store to their operand. -/
def storers : List Mnemonic := [.sta, .stx, .sty, .sax]

/-- The mnemonics that read their operand and write it back (R190). -/
def modifiers : List Mnemonic :=
  [.asl, .lsr, .rol, .ror, .inc, .dec, .slo, .rla, .sre, .rra, .dcp, .isb]

/-- The mnemonics that touch registers and flags alone: no memory, no stack. -/
def registerOnly : List Mnemonic :=
  [.tax, .tay, .txa, .tya, .tsx, .txs, .inx, .iny, .dex, .dey, .clc, .cld, .cli, .clv, .sec, .sed, .sei, .nop,
    .bpl, .bmi, .bvc, .bvs, .bcc, .bcs, .bne, .beq]

/-- The mnemonics that use the stack. -/
def stackUsers : List Mnemonic := [.pha, .php, .pla, .plp, .jsr, .rts, .brk, .rti]

/-- R370's cell of an instruction's opcode byte, read off the table by what the instruction does with its operand and by its
mode. -/
def tableCost (i : Instr) : Nat :=
  match i.mnemonic with
  | .brk => 7
  | .jsr | .rts | .rti => 6
  | .pha | .php => 3
  | .pla | .plp => 4
  | .jmp => match i.operand with | .ind _ _ => 5 | _ => 3
  | op =>
    match i.operand with
    | .imp | .acc | .imm _ | .rel _ | .ind _ _ => 2
    | .zp _ => if op ∈ modifiers then 5 else 3
    | .zpx _ | .zpy _ | .abs _ _ => if op ∈ modifiers then 6 else 4
    | .absx _ _ | .absy _ _ => if op ∈ modifiers then 7 else if op ∈ storers then 5 else 4
    | .indx _ => if op ∈ modifiers then 8 else 6
    | .indy _ => if op ∈ modifiers then 8 else if op ∈ storers then 6 else 5

/-- `n` reads of one address, one after another, and the bytes they return. -/
def readTimes : Nat → Word → State → Res (List Byte)
  | 0, _, s => .ok [] s
  | n + 1, a, s => (memRead a s).andThen fun b t => (readTimes n a t).andThen fun bs u => .ok (b :: bs) u

/-- The nametable byte the default cartridge holds at a PPU address in 0x2000-0x3EFF (R87). -/
def ntByte (s : State) (a : Nat) : Byte := s.cart.ciram.read (ntCell s.cfg.mirroring (BitVec.ofNat 16 a))

/-- The palette index of the background pixel at column `x` of scanline `sl` under the default cartridge, from the one
tile it lies in (R291-R294, R297). -/
def backgroundIndex (s : State) (sl x : Nat) : Nat :=
  let nt := 0x2000 + 0x400 * (s.ppu.ctrl.toNat % 4)
  let tile := (ntByte s (nt + sl / 8 * 32 + x / 8)).toNat
  let pattern := (if s.ppu.ctrl.getLsbD 4 then 0x1000 else 0) + tile * 16 + sl % 8
  let attr := (ntByte s (nt + 0x3C0 + sl / 32 * 8 + x / 32)).toNat
  let group := attr / 2 ^ (sl / 16 % 2 * 4 + x / 16 % 2 * 2) % 4
  let low := (s.cart.chr.read pattern).getLsbD (7 - x % 8)
  let high := (s.cart.chr.read (pattern + 8)).getLsbD (7 - x % 8)
  let c := (if high then 2 else 0) + (if low then 1 else 0)
  if c = 0 ∨ s.ppu.mask.getLsbD 3 = false then 0 else group * 4 + c

/-- The colour bits of sprite `i` at column `x` of scanline `sl` under the default cartridge: 0 where it is transparent
there or does not reach (R300-R303). -/
def spriteBits (s : State) (sl i x : Nat) : Nat :=
  let tile := (s.ppu.oam.read (4 * i + 1)).toNat
  let attr := s.ppu.oam.read (4 * i + 2)
  let sx := (s.ppu.oam.read (4 * i + 3)).toNat
  let h := if s.ppu.ctrl.getLsbD 5 then 16 else 8
  let r := sl - ((s.ppu.oam.read (4 * i)).toNat + 1)
  let row := if attr.getLsbD 7 then h - 1 - r else r
  let pattern :=
    if s.ppu.ctrl.getLsbD 5 then tile % 2 * 0x1000 + (tile / 2 * 2 + row / 8) * 16 + row % 8
    else (if s.ppu.ctrl.getLsbD 3 then 0x1000 else 0) + tile * 16 + row
  let b := if attr.getLsbD 6 then x - sx else 7 - (x - sx)
  if sx ≤ x ∧ x < sx + 8 then
    (if (s.cart.chr.read (pattern + 8)).getLsbD b then 2 else 0) + (if (s.cart.chr.read pattern).getLsbD b then 1 else 0)
  else 0

/-- The sprites drawn on scanline `sl`, in index order (R298, R299). -/
def drawnSprites (s : State) (sl : Nat) : List Nat :=
  let h := if s.ppu.ctrl.getLsbD 5 then 16 else 8
  ((List.range 64).filter fun i =>
    decide ((s.ppu.oam.read (4 * i)).toNat + 1 ≤ sl ∧ sl < (s.ppu.oam.read (4 * i)).toNat + 1 + h)).take 8

/-- The palette index shown at column `x` of scanline `sl` under the default cartridge: that of the sprite `SPRITE_ORDER`
puts on top among those opaque there, and the background's where there is none or sprites are hidden (R297, R303,
R304). -/
def shownIndex (s : State) (sl x : Nat) : Nat :=
  let opaques := (drawnSprites s sl).filter fun i => decide (spriteBits s sl i x ≠ 0)
  let top := if s.cfg.spriteOrder = .laterDrawnWins then opaques.getLast? else opaques.head?
  match top with
  | some i =>
    if s.ppu.mask.getLsbD 4 then 0x10 + (s.ppu.oam.read (4 * i + 2)).toNat % 4 * 4 + spriteBits s sl i x
    else backgroundIndex s sl x
  | none => backgroundIndex s sl x

/-- The state with the D flag set to `d`, and nothing else changed. -/
def withD (d : Bool) (s : State) : State :=
  { s with cpu := { s.cpu with flags := { s.cpu.flags with d := d } } }

/-- An outcome with the D flag of its state set to `d`. -/
def outcomeWithD (d : Bool) : Outcome → Outcome
  | .next t => .next (withD d t)
  | .fault (.fatal k t) => .fault (.fatal k (withD d t))
  | .refused r => .refused r

/-! ## Where instructions stand -/

/-- A byte the CPU reads at `a` from RAM or from the cartridge, reading which changes nothing (R62, R67, R74). -/
def plainRead (s : State) (a : Word) : Option Byte :=
  if a.toNat ≤ 0x1FFF then some (s.ram.read (ramIndex a))
  else if a.toNat ≤ 0x401F then none
  else
    match s.cfg.cart with
    | .nrom => if 0x8000 ≤ a.toNat then some (s.cart.prg.read (prgOffset s.cfg a)) else none
    | .external => Config.cartCpuRead s.cart.external a

/-- The bytes stand from `a` on in RAM or in the cartridge. -/
def codeAt (s : State) : Word → List Byte → Prop
  | _, [] => True
  | a, b :: rest => plainRead s a = some b ∧ codeAt s (a + 1) rest

/-- What follows the pushes of BRK or of an interrupt entry, from the state `u` they leave: the PC from the vector and then
`last`, or the fault of the first vector byte that does not answer, with the pushes done (R12, R75, R213, R334). -/
def throughVector (u : State) (vector : Word) (last : State → State) : Outcome :=
  match plainRead u vector, plainRead u (vector + 1) with
  | some lo, some hi => .next (last { u with cpu := { u.cpu with pc := hi ++ lo } })
  | none, _ => .fault (.fatal (.unmappedCpuAddress vector .read)
      { u with fault := some (.unmappedCpuAddress vector .read) })
  | some _, none => .fault (.fatal (.unmappedCpuAddress (vector + 1) .read)
      { u with fault := some (.unmappedCpuAddress (vector + 1) .read) })

/-- Bit `k` of the status byte with the break bit `b` (R23, R24). -/
def statusBit (f : Flags) (b : Bool) (k : Nat) : Bool :=
  match k with
  | 7 => f.n
  | 6 => f.v
  | 5 => true
  | 4 => b
  | 3 => f.d
  | 2 => f.i
  | 1 => f.z
  | 0 => f.c
  | _ => false

/-- The next step is a CPU step: nothing has halted the machine and the scanline's budget is not spent (R320, R331). -/
def cpuTurn (s : State) : Prop :=
  s.fault = none ∧ s.drv.phase = .cpu ∧ s.drv.acc < s.cfg.cyclesPerScanline

/-- The CPU step runs an instruction: no reset, NMI or IRQ is taken (R332). -/
def instructionTurn (s : State) : Prop :=
  s.cpu.resetPending = false ∧ takesNmi s = false ∧ takesIrq s = false

/-! ## The invariant -/

/-- A memory in canonical form with every address below `n`. -/
abbrev Memory.ok (m : Memory) (n : Nat) : Prop := m.wf ∧ m.below n

/-- The memories hold what the spec says they hold: 2048 bytes of RAM (R34), 256 of OAM (R41), 32 of palette RAM of which
four are not separate storage (R42, R81), 2048 of nametable RAM (R46), 8 KB of patterns (R86), the program ROM's banks
(R85), and 240 rows of 256 pixels of three bytes (R43); each in its one canonical form (log 3). -/
structure MemoriesOk (s : State) : Prop where
  ram : Memory.ok s.ram 0x800
  oam : Memory.ok s.ppu.oam 256
  pal : Memory.ok s.ppu.pal 32
  noAlias : ∀ c ∈ s.ppu.pal, palIndex c.1 = c.1
  ciram : Memory.ok s.cart.ciram 0x800
  chr : Memory.ok s.cart.chr 0x2000
  prg : Memory.ok s.cart.prg (prgSize s.cfg)
  fb : ∀ row : Fin 240, Memory.ok s.fb[row] 768

/-- The scanline about to start, or being run, is one of the frame's, and only a visible one is rendered (R45, R320). -/
def LineOk (s : State) : Prop :=
  match s.drv.phase with
  | .startLine sl => s.drv.line < s.cfg.scanlinesPerFrame ∧ sl < s.cfg.scanlinesPerFrame
  | .cpu => s.drv.line < s.cfg.scanlinesPerFrame
  | .raster => s.drv.line < s.cfg.scanlinesPerFrame ∧ s.drv.line ≤ 239

/-- The invariant of the machine. With the strobe on, the shift register is the live buttons (R313); a step's stall is none
or that of one OAM DMA (R33, R374); the parameters are ones R7 allows. -/
structure Inv (s : State) : Prop where
  memories : MemoriesOk s
  strobe : s.ctl.strobe = true → s.ctl.shift = s.ctl.buttons
  stall : s.scratch.dmaStall = 0 ∨ s.scratch.dmaStall = 514
  line : LineOk s
  cfg : s.cfg.wf = true

/-- An image holds the bytes of the cartridge's ROMs, in canonical form (R85, R86). -/
structure Image.Ok (cfg : Config) (image : Image) : Prop where
  prg : Memory.ok image.prg (prgSize cfg)
  chr : Memory.ok image.chr 0x2000

/-- The draws hold the bytes of the memories that power-on leaves free, in canonical form (R360). -/
structure Init.Ok (init : Init) : Prop where
  ram : Memory.ok init.ram 0x800
  oam : Memory.ok init.ppu.oam 256
  pal : Memory.ok init.ppu.pal 32
  noAlias : ∀ c ∈ init.ppu.pal, palIndex c.1 = c.1
  ciram : Memory.ok init.ciram 0x800
  fb : ∀ row : Fin 240, Memory.ok init.fb[row] 768

/-- A run is safe for `n` steps when no step of it faults or is refused. -/
def safeFor : Nat → State → Prop
  | 0, _ => True
  | n + 1, s =>
    match step s with
    | .next t => safeFor n t
    | .fault _ => False
    | .refused _ => False

end Sys2Proof.Machine
end

