-- ==== Sys2Proof/Certificates/Slice0/Obligations.lean ====
section
/-! DEFINITION. The statements about the machine, from the numbered rules of spec/. "Log <n>" is notes/assumptions/<n>.md.
`resolved o s` is `s` with the step's `crossed` set for the operand `o` and nothing else changed, so an equation with
it, or with the state a bus access leaves, says the whole next state. -/

open Sys2Proof Sys2Proof.Machine

/-! ## Encoding and decoding -/

/-- Words written out from the encodings of 30_encoding.md R100 and R111 decode to the instructions they stand for: one of each
format, and an undefined byte. -/
def Obligations.SampleWordsDecode : Prop :=
  decodeTableWord 16 0x80A9 = some (.ldaImm 0x80) ∧
  decodeTableWord 24 0x02008D = some (.staAbs 0x00 0x02) ∧
  decodeTableWord 16 0xFF96 = some (.stxZpy 0xFF) ∧
  decodeTableWord 16 0x2075 = some (.adcZpx 0x20) ∧
  decodeTableWord 24 0x80FFBD = some (.ldaAbsx 0xFF 0x80) ∧
  decodeTableWord 24 0x02F0D9 = some (.cmpAbsy 0xF0 0x02) ∧
  decodeTableWord 8 0x0A = some .aslAcc ∧
  decodeTableWord 16 0xFCD0 = some (.bneRel 0xFC) ∧
  decodeTableWord 24 0x02FF6C = some (.jmpInd 0xFF 0x02) ∧
  decodeTableWord 16 0x20A1 = some (.ldaIndx 0x20) ∧
  decodeTableWord 16 0x10C7 = some (.dcpZp 0x10) ∧
  decodeTableWord 16 0x2011 = some (.oraIndy 0x20) ∧
  decodeTableWord 8 0x48 = some .pha ∧
  decodeTableWord 8 0x02 = some .undef02

/-- Decoding and encoding agree on every instruction of the table, with every operand byte, and on every list of bytes:
an encoded instruction decodes to itself with the bytes after it left, and whatever decodes is the encoding of what it
decodes to followed by the bytes left (R100, R102, R103). -/
def Obligations.DecodeEncodeAgree : Prop :=
  (∀ (i : Instr) (rest : List Byte), decode (encode i ++ rest) = .ok (i, rest)) ∧
  (∀ (bs rest : List Byte) (i : Instr), decode bs = .ok (i, rest) → bs = encode i ++ rest)

/-- Every byte begins an instruction, all whose forms have one mnemonic, and is one of three things under every setting: a
documented instruction, always enabled; an undocumented one, enabled exactly when it is in `UNDOC_ENABLED`; or one of
the 25 undefined bytes, never enabled (R104, R106, R240). -/
def Obligations.OpcodeBytesAreClassified : Prop :=
  undefinedBytes.length = 25 ∧ undocumentedBytes.length = 80 ∧ (undefinedBytes ++ undocumentedBytes).Nodup ∧
  ∀ op : Byte, ∃ i : Instr, i.opcode = op ∧
    ∀ j : Instr, j.opcode = op → j.mnemonic = i.mnemonic ∧
      (j.mnemonic = .undefined ↔ op ∈ undefinedBytes) ∧
      ∀ cfg : Config, j.wellFormed cfg = true ↔
        op ∉ undefinedBytes ∧ (op ∈ undocumentedBytes → op ∈ cfg.undocEnabled)

/-! ## The step -/

/-- A step runs the decoded instruction. After the host's calls for the step, when it is the CPU's turn, no interrupt is taken,
and the bytes of an enabled instruction stand at the PC in RAM or in the cartridge, the step is `exec` of that
instruction in the state with the per-step scratch cleared and the PC past the instruction, with the cycles of R371
added to the driver's count and the step counted (R22, R100, R332, R371). -/
def Obligations.StepRunsDecodedInstruction : Prop :=
  ∀ (s t : State) (i : Instr), t = hostCalls s → cpuTurn t → instructionTurn t →
    i.wellFormed t.cfg = true → codeAt t t.cpu.pc (encode i) →
    step s = report (fun u => cost u.cfg.branchTiming i u.scratch)
      (exec i { t with
        cpu := { t.cpu with pc := t.cpu.pc + BitVec.ofNat 16 (encode i).length }
        scratch := { crossed := false, taken := false, dmaStall := 0 } })

/-- The undefined opcode is fatal. The 25 undefined instructions fault from every state, with the opcode byte and the address
before the PC, which has advanced past it; and a step that fetches a byte that is not enabled faults with the byte and
its address, no operand byte read and no register but the PC changed (R106, R332). -/
def Obligations.UndefinedOpcodesFault : Prop :=
  (∀ (i : Instr) (s : State), i.mnemonic = .undefined →
    exec i s = .fault (.fatal (.undefinedOpcode i.opcode (s.cpu.pc - 1))
      { s with fault := some (.undefinedOpcode i.opcode (s.cpu.pc - 1)) })) ∧
  (∀ (s t : State) (op : Byte), t = hostCalls s → cpuTurn t → instructionTurn t →
    plainRead t t.cpu.pc = some op → t.cfg.enabled op = false →
    step s = .fault (.fatal (.undefinedOpcode op t.cpu.pc)
      { t with
        cpu := { t.cpu with pc := t.cpu.pc + 1 }
        scratch := { crossed := false, taken := false, dmaStall := 0 }
        fault := some (.undefinedOpcode op t.cpu.pc) }))

/-- The host's calls of a step are taken off the queue and made in order before the step's own action: a step with calls queued
is the step with none queued for it, of the state the calls leave; an empty queue makes no call; and a step takes exactly
its own calls off the queue. `HostReset` latches a reset, and `Update` sets or clears one button's bit, reloading the
shift register while the strobe is on; a call changes nothing else (R310, R324, R361). The queue is the model's form of
`HOST_EVENTS` (log 6). -/
def Obligations.HostCallsActBetweenSteps : Prop :=
  (∀ (s : State) (now : List HostCall) (later : List (List HostCall)),
    step { s with host := now :: later } = step { now.foldl hostCall s with host := [] :: later }) ∧
  (∀ s : State, step { s with host := [] } = step { s with host := [[]] }) ∧
  (∀ s t : State, step s = .next t → t.host = s.host.tail) ∧
  (∀ s : State, s.host = [] → hostCalls s = s) ∧
  (∀ (s : State) (now : List HostCall) (later : List (List HostCall)), s.host = now :: later →
    hostCalls s = now.foldl hostCall { s with host := later }) ∧
  (∀ s : State, hostCall s .hostReset = { s with cpu := { s.cpu with resetPending := true } }) ∧
  (∀ (s : State) (button : Button) (pressed : Bool), ∃ live : Byte,
    (∀ k, live.getLsbD k = if k = button.number then pressed else s.ctl.buttons.getLsbD k) ∧
    hostCall s (.update button pressed) =
      { s with ctl := { s.ctl with buttons := live, shift := if s.ctl.strobe then live else s.ctl.shift } })

/-- A fault is final: a halted machine's step is that fault again, whatever the host calls (R32, R331). That the outcome carries
the halted state is the model's form (log 4). -/
def Obligations.HaltedStaysHalted : Prop :=
  ∀ (s : State) (k : FaultKind), s.fault = some k →
    step s = .fault (.fatal k (hostCalls s)) ∧ (hostCalls s).fault = some k ∧ ∀ t, step s ≠ .next t

/-- Every step keeps the invariant: every memory in its canonical form within the bounds the spec gives it, the four
aliased palette cells never listed, the strobe's hold on the shift register (R313), a stall of 0 or 514 cycles, a
scanline of the frame, and a rendered line that is visible. The canonical form is the model's (log 3). -/
def Obligations.StepKeepsInvariant : Prop :=
  ∀ s t : State, Inv s → step s = .next t → Inv t

/-- Every power-on state meets the invariant: for every setting R7 allows, every image of the cartridge's bytes and every draw of
the memories R360 leaves free, each in canonical form (the form is the model's, log 3); and so does State.reset, the one
of them with the default setting, the empty image and every draw zero, the model's choice among them (logs 1, 2, 9). -/
def Obligations.ResetMeetsInvariant : Prop :=
  (∀ (cfg : Config) (image : Image) (init : Init), cfg.wf = true → image.Ok cfg → init.Ok →
    Inv (State.powerOn cfg image init)) ∧
  Inv State.reset

/-- No step changes the parameters or the program ROM, and none changes the pattern ROM of the default cartridge unless
`CHR_WRITE` makes it RAM (R46, R47, R85, R86). -/
def Obligations.StepKeepsParametersAndRom : Prop :=
  ∀ s t : State, step s = .next t →
    t.cfg = s.cfg ∧ t.cart.prg = s.cart.prg ∧
      (s.cfg.cart = .nrom → s.cfg.chrWrite ≠ .ram → t.cart.chr = s.cart.chr)

/-- Only the raster draws, and it does nothing else: a step of any other agent leaves every pixel, and the raster's step
leaves every part of the machine but the pixels and the driver's place in the frame (R43, R290). -/
def Obligations.OnlyRasterDraws : Prop :=
  ∀ s t : State, step s = .next t →
    ((hostCalls s).drv.phase ≠ .raster → t.fb = s.fb) ∧
    ((hostCalls s).drv.phase = .raster →
      t = { hostCalls s with fb := t.fb, drv := { (hostCalls s).drv with phase := t.drv.phase } })

/-- Only the driver makes an NMI pending, at the start of line 241 with bit 7 of Control set; and a handler comes to be
in progress only by an NMI entry, or by an IRQ entry with the line asserted, I clear, no NMI pending and
`IRQ_ENTRY = Service`, with no reset pending and the PC from that entry's vector (R30, R75, R275, R332, R336). -/
def Obligations.NmiComesFromTheDriver : Prop :=
  ∀ s t : State, step s = .next t →
    (t.cpu.nmiPending = true → s.cpu.nmiPending = false →
      (hostCalls s).drv.phase = .startLine 241 ∧ s.ppu.ctrl.getLsbD 7 = true) ∧
    (t.cpu.servicing = true → s.cpu.servicing = false →
      (hostCalls s).drv.phase = .cpu ∧ (hostCalls s).cpu.resetPending = false ∧
        ∃ (vector : Word) (lo hi : Byte),
          ((s.cpu.nmiPending = true ∧ vector = 0xFFFA) ∨
            (s.cpu.nmiPending = false ∧ irqLineAt s.cfg.irqLine s.cpuSteps = true ∧ s.cpu.flags.i = false ∧
              s.cfg.irqEntry = .service ∧ vector = 0xFFFE)) ∧
          plainRead s vector = some lo ∧ plainRead s (vector + 1) = some hi ∧ t.cpu.pc = hi ++ lo)

/-! ## Interrupt entries -/

/-- The reset entry: the PC from the reset vector, I set, the latches cleared, seven cycles, and nothing else: nothing is
pushed and S is unchanged (R333, R373). It goes before any NMI, IRQ or instruction (R332). A vector byte that does not
answer is the fault, with nothing done (R12). -/
def Obligations.ResetEntry : Prop :=
  ∀ s t u : State, t = hostCalls s → cpuTurn t → t.cpu.resetPending = true →
    u = { t with scratch := { crossed := false, taken := false, dmaStall := 0 } } →
    (∀ lo hi : Byte, plainRead t 0xFFFC = some lo → plainRead t 0xFFFD = some hi →
      step s = .next { u with
        cpu := { t.cpu with
          pc := hi ++ lo, flags := { t.cpu.flags with i := true }
          resetPending := false, nmiPending := false, servicing := false }
        drv := { t.drv with acc := t.drv.acc + 7 }
        cpuSteps := t.cpuSteps + 1 }) ∧
    step s = throughVector u 0xFFFC fun w => { w with
      cpu := { w.cpu with
        flags := { t.cpu.flags with i := true }, resetPending := false, nmiPending := false, servicing := false }
      drv := { t.drv with acc := t.drv.acc + 7 }
      cpuSteps := t.cpuSteps + 1 }

/-- The NMI entry, with no reset pending and the NMI not held back by a handler in progress: the PC and the status byte p with
break bit 0 are pushed, high byte first, and I is set; then the PC comes from the NMI vector, the pending NMI is consumed
and a handler is in progress, in seven cycles; I does not mask it, and nothing else changes (R24, R26, R334, R341,
R373). A vector byte that does not answer is the fault, with the pushes done and I set (R12). -/
def Obligations.NmiEntry : Prop :=
  ∀ (s t u : State) (p : Byte), t = hostCalls s → cpuTurn t → t.cpu.resetPending = false → t.cpu.nmiPending = true →
    (t.cpu.servicing = false ∨ t.cfg.nmiNesting = .nest) →
    (∀ k, p.getLsbD k = statusBit t.cpu.flags false k) →
    u = { t with
      cpu := { t.cpu with sp := t.cpu.sp - 3, flags := { t.cpu.flags with i := true } }
      ram := ((t.ram.write (0x100 + t.cpu.sp.toNat) (hiByte t.cpu.pc)).write
        (0x100 + (t.cpu.sp - 1).toNat) (loByte t.cpu.pc)).write (0x100 + (t.cpu.sp - 2).toNat) p
      scratch := { crossed := false, taken := false, dmaStall := 0 } } →
    (∀ lo hi : Byte, plainRead t 0xFFFA = some lo → plainRead t 0xFFFB = some hi →
      step s = .next { u with
        cpu := { u.cpu with pc := hi ++ lo, nmiPending := false, servicing := true }
        drv := { t.drv with acc := t.drv.acc + 7 }
        cpuSteps := t.cpuSteps + 1 }) ∧
    step s = throughVector u 0xFFFA fun w => { w with
      cpu := { w.cpu with nmiPending := false, servicing := true }
      drv := { t.drv with acc := t.drv.acc + 7 }
      cpuSteps := t.cpuSteps + 1 }

/-- The IRQ entry, with the line asserted, I clear, no handler in progress, and no reset or NMI to take first: fatal under
`IRQ_ENTRY = Fatal` before anything is pushed, and otherwise as the NMI entry, through the IRQ vector and with the
pending NMI left (R24, R26, R335, R337, R373); a vector byte that does not answer is the fault, with the pushes done and
I set (R12). -/
def Obligations.IrqEntry : Prop :=
  ∀ s t : State, t = hostCalls s → cpuTurn t → t.cpu.resetPending = false → t.cpu.nmiPending = false →
    t.cpu.servicing = false → t.cpu.flags.i = false → irqLineAt t.cfg.irqLine t.cpuSteps = true →
    (t.cfg.irqEntry = .fatal →
      step s = .fault (.fatal (.irqUnimplemented t.cpu.pc)
        { t with
          scratch := { crossed := false, taken := false, dmaStall := 0 }
          fault := some (.irqUnimplemented t.cpu.pc) })) ∧
    (t.cfg.irqEntry = .service → ∀ (u : State) (p : Byte), (∀ k, p.getLsbD k = statusBit t.cpu.flags false k) →
      u = { t with
        cpu := { t.cpu with sp := t.cpu.sp - 3, flags := { t.cpu.flags with i := true } }
        ram := ((t.ram.write (0x100 + t.cpu.sp.toNat) (hiByte t.cpu.pc)).write
          (0x100 + (t.cpu.sp - 1).toNat) (loByte t.cpu.pc)).write (0x100 + (t.cpu.sp - 2).toNat) p
        scratch := { crossed := false, taken := false, dmaStall := 0 } } →
      (∀ lo hi : Byte, plainRead t 0xFFFE = some lo → plainRead t 0xFFFF = some hi →
        step s = .next { u with
          cpu := { u.cpu with pc := hi ++ lo, servicing := true }
          drv := { t.drv with acc := t.drv.acc + 7 }
          cpuSteps := t.cpuSteps + 1 }) ∧
      step s = throughVector u 0xFFFE fun w => { w with
        cpu := { w.cpu with servicing := true }
        drv := { t.drv with acc := t.drv.acc + 7 }
        cpuSteps := t.cpuSteps + 1 })

/-! ## The frame driver -/

/-- The schedule of a scanline. At its start vblank is set at line 241 and cleared at `VBLANK_CLEAR_LINE`, and at line 241 an enabled NMI
is requested, which is fatal when one is already pending. Then, when the cycle budget is spent, it is charged and the
excess carried over. Then a visible line is rendered, and another is not; and after it the next line of the frame
starts, the first one after the last (R274, R320, R321, R322, R325, R336). -/
def Obligations.ScanlineSchedule : Prop :=
  ∀ (s t : State) (sl : Nat), t = hostCalls s → t.fault = none →
    (t.drv.phase = .startLine sl → sl = 241 → t.ppu.ctrl.getLsbD 7 = true → t.cpu.nmiPending = true →
      step s = .fault (.fatal .nmiDoubleRequest
        { t with
          drv := { t.drv with line := sl }
          ppu := { t.ppu with vblank := true }
          fault := some .nmiDoubleRequest })) ∧
    (t.drv.phase = .startLine sl → ¬(sl = 241 ∧ t.ppu.ctrl.getLsbD 7 = true ∧ t.cpu.nmiPending = true) →
      step s = .next { t with
        drv := { t.drv with line := sl, phase := .cpu }
        ppu := { t.ppu with
          vblank := if sl = t.cfg.vblankClearLine then false else if sl = 241 then true else t.ppu.vblank }
        cpu := { t.cpu with
          nmiPending := t.cpu.nmiPending || (decide (sl = 241) && t.ppu.ctrl.getLsbD 7) } }) ∧
    (t.drv.phase = .cpu → t.cfg.cyclesPerScanline ≤ t.drv.acc →
      step s = .next { t with
        drv := { t.drv with
          acc := t.drv.acc - t.cfg.cyclesPerScanline
          phase := if t.drv.line ≤ 239 then .raster
            else .startLine (if t.drv.line + 1 < t.cfg.scanlinesPerFrame then t.drv.line + 1 else 0) } }) ∧
    (t.drv.phase = .raster → ∀ u, renderScanline t.drv.line t = .ok () u →
      step s = .next { u with
        drv := { t.drv with
          phase := .startLine (if t.drv.line + 1 < t.cfg.scanlinesPerFrame then t.drv.line + 1 else 0) } })

/-- The cycles of a completed instruction: its base cost, which is R370's for its row; one more on a page crossing for exactly
the instructions that only read an absolute indexed or (zp),Y operand; under `BRANCH_TIMING = Nmos` one more for a taken
branch and another when it crosses a page; and the stall (R133, R370, R371, R372). -/
def Obligations.CostOfInstruction : Prop :=
  ∀ (timing : BranchTiming) (i : Instr) (c : Scratch), i.mnemonic ≠ .undefined →
    baseCycles i.opcode = tableCost i ∧
    cost timing i c = tableCost i
      + (if i.mnemonic ∈ Mnemonic.nop :: readers
          ∧ ((∃ l h, i.operand = .absx l h) ∨ (∃ l h, i.operand = .absy l h) ∨ (∃ a, i.operand = .indy a))
          ∧ c.crossed = true then 1 else 0)
      + (if timing = .nmos ∧ (∃ o, i.operand = .rel o) ∧ c.taken = true then (if c.crossed then 2 else 1) else 0)
      + c.dmaStall

/-! ## Operands -/

/-- What every addressing mode resolves to, and the crossing bit: nothing for implied and accumulator, the byte itself for
immediate; zero-page sums stay in the zero page, absolute indexed sums wrap in 16 bits, a jump's pointer is read without
leaving its page, an (zp,X) pointer's high byte comes from the zero page, an (zp),Y pointer's follows `INDY_PTR_WRAP`,
and a branch target counts from the next instruction. Nothing but `crossed` changes, and what the two reads of a jump's
pointer change (R120-R132). -/
def Obligations.OperandAddresses : Prop :=
  ∀ s : State,
    (resolve .imp s = .ok .none { s with scratch := { s.scratch with crossed := false } }) ∧
    (resolve .acc s = .ok .none { s with scratch := { s.scratch with crossed := false } }) ∧
    (∀ b, resolve (.imm b) s = .ok (.imm b) { s with scratch := { s.scratch with crossed := false } }) ∧
    (∀ (l h lo hi : Byte) (t u : State), memRead (h ++ l) s = .ok lo t → memRead (h ++ (l + 1)) t = .ok hi u →
      resolve (.ind l h) s = .ok (.addr (hi ++ lo)) { u with scratch := { u.scratch with crossed := false } }) ∧
    (∀ a, resolve (.zp a) s = .ok (.addr (a.setWidth 16)) { s with scratch := { s.scratch with crossed := false } }) ∧
    (∀ a, resolve (.zpx a) s =
      .ok (.addr ((a + s.cpu.x).setWidth 16)) { s with scratch := { s.scratch with crossed := false } }) ∧
    (∀ a, resolve (.zpy a) s =
      .ok (.addr ((a + s.cpu.y).setWidth 16)) { s with scratch := { s.scratch with crossed := false } }) ∧
    (∀ l h, resolve (.abs l h) s = .ok (.addr (h ++ l)) { s with scratch := { s.scratch with crossed := false } }) ∧
    (∀ l h, resolve (.absx l h) s = .ok (.addr ((h ++ l) + s.cpu.x.setWidth 16))
      { s with scratch := { s.scratch with crossed := decide (0xFF < l.toNat + s.cpu.x.toNat) } }) ∧
    (∀ l h, resolve (.absy l h) s = .ok (.addr ((h ++ l) + s.cpu.y.setWidth 16))
      { s with scratch := { s.scratch with crossed := decide (0xFF < l.toNat + s.cpu.y.toNat) } }) ∧
    (∀ a, resolve (.indx a) s =
      .ok (.addr (s.ram.read (a + s.cpu.x + 1).toNat ++ s.ram.read (a + s.cpu.x).toNat))
        { s with scratch := { s.scratch with crossed := false } }) ∧
    (∀ (a high low : Byte), low = s.ram.read a.toNat →
      high = s.ram.read (if s.cfg.indyPtrWrap = .zeroPage then (a.toNat + 1) % 256 else a.toNat + 1) →
      resolve (.indy a) s = .ok (.addr ((high ++ low) + s.cpu.y.setWidth 16))
        { s with scratch := { s.scratch with crossed := decide (0xFF < low.toNat + s.cpu.y.toNat) } }) ∧
    (∀ o, resolve (.rel o) s = .ok (.addr (s.cpu.pc + o.signExtend 16))
      { s with scratch := { s.scratch with
          crossed := decide ((s.cpu.pc + o.signExtend 16).toNat / 256 ≠ s.cpu.pc.toNat / 256) } })

/-- The page-wrapping pointer read: the low byte at the pointer, then the high byte at the next address of the same page
(R134); with 0x02 at 0x00FF and 0x0A at 0x0000 the pointer at 0x00FF reads 0x0A02. -/
def Obligations.PointerReadKeepsItsPage : Prop :=
  (∀ (p : Word) (s t u : State) (lo hi : Byte), memRead p s = .ok lo t →
    memRead (hiByte p ++ (loByte p + 1)) t = .ok hi u → read16Wrap p s = .ok (hi ++ lo) u) ∧
  (∀ s : State, s.ram.read 0xFF = 0x02 → s.ram.read 0 = 0x0A → read16Wrap 0x00FF s = .ok 0x0A02 s)

/-- An access that is not accepted stops the instruction. A reading or a read-modify-write instruction whose effective address
does not answer a read faults with nothing changed but `crossed`; a store whose bus write is not accepted faults with what that write did; and
so does a read-modify-write instruction whose read answers and whose write is not accepted, with the read and the new C
done before it and nothing after it. At 0x4018-0x401F, and under the default cartridge up to 0x7FFF, the fault is the unmapped address
(R12, R68, R85, R88, R135, R136, R190, R331). -/
def Obligations.RejectedAccessFaults : Prop :=
  (∀ (i : Instr) (s : State) (a : Word), i.mnemonic ∈ readers ++ modifiers → effectiveAddress i.operand s = some a →
    readable s a = false →
    ∃ k, exec i s = .fault (.fatal k { resolved i.operand s with fault := some k }) ∧
      (0x4018 ≤ a.toNat → a.toNat ≤ 0x401F ∨ s.cfg.cart = .nrom → k = .unmappedCpuAddress a .read)) ∧
  (∀ (i : Instr) (s : State) (a : Word) (v : Byte),
    (i.mnemonic = .sta ∧ v = s.cpu.a) ∨ (i.mnemonic = .stx ∧ v = s.cpu.x) ∨ (i.mnemonic = .sty ∧ v = s.cpu.y)
      ∨ (i.mnemonic = .sax ∧ v = s.cpu.a &&& s.cpu.x) →
    effectiveAddress i.operand s = some a → writable s a v = false →
    ∃ k u, exec i s = .fault (.fatal k { u with fault := some k }) ∧ memWrite a v (resolved i.operand s) = .raise k u ∧
      (0x4018 ≤ a.toNat → a.toNat ≤ 0x401F ∨ s.cfg.cart = .nrom →
        k = .unmappedCpuAddress a .write ∧ u = resolved i.operand s)) ∧
  (∀ (i : Instr) (s t u : State) (a : Word) (m v : Byte), i.mnemonic ∈ modifiers → effectiveAddress i.operand s = some a →
    memRead a (resolved i.operand s) = .ok m t → v = rmwResult i.mnemonic s.cpu.flags.c m → writable t a v = false →
    u = { t with cpu := { t.cpu with flags := { t.cpu.flags with c := rmwCarry i.mnemonic s.cpu.flags.c m } } } →
    ∃ k w, exec i s = .fault (.fatal k { w with fault := some k }) ∧ memWrite a v u = .raise k w ∧
      (0x4020 ≤ a.toNat → s.cfg.cart = .nrom → k = .unmappedCpuAddress a .write ∧ w = u))

/-! ## The CPU bus -/

/-- Exactly the readable addresses answer a read (R61, R69, R82, R84, R88). -/
def Obligations.ReadsAnswerExactlyWhenReadable : Prop :=
  ∀ (a : Word) (s : State), readable s a = true ↔ ∃ b t, memRead a s = .ok b t

/-- Exactly the writable addresses accept a write, an OAM DMA being accepted when each of its reads answers (R61, R70, R82,
R84-R88, R315, R316). -/
def Obligations.WritesAreAcceptedExactlyWhenWritable : Prop :=
  ∀ (a : Word) (v : Byte) (s : State), writable s a v = true ↔ ∃ t, memWrite a v s = .ok () t

/-- RAM and its mirrors: a write in 0x0000-0x1FFF changes one cell of RAM and nothing else, and a read in 0x0000-0x1FFF
after it gives the value written at every mirror of that cell and the value before at every other one, changing nothing
(R34, R62, R89). -/
def Obligations.RamReadsBackAtEveryMirror : Prop :=
  ∀ (a b : Word) (v : Byte) (s : State), a.toNat ≤ 0x1FFF → b.toNat ≤ 0x1FFF →
    memWrite a v s = .ok () { s with ram := s.ram.write (a.toNat % 0x800) v } ∧
    ∀ t, memWrite a v s = .ok () t →
      memRead b t = .ok (if b.toNat % 0x800 = a.toNat % 0x800 then v else s.ram.read (b.toNat % 0x800)) t

/-- The inert addresses: a read returns 0 and has no side effect, a write changes no state (R64). The unmapped addresses: an
access to 0x4018-0x401F, read or write, raises (R68). A read of 0x4014 returns 0 and has no side effect, as R65 says of
it. -/
def Obligations.InertAndUnmappedAddresses : Prop :=
  ∀ (a : Word) (v : Byte) (s : State),
    ((0x4000 ≤ a.toNat ∧ a.toNat ≤ 0x4013) ∨ a = 0x4015 ∨ a = 0x4017 →
      memRead a s = .ok 0 s ∧ memWrite a v s = .ok () s) ∧
    memRead 0x4014 s = .ok 0 s ∧
    (0x4018 ≤ a.toNat → a.toNat ≤ 0x401F →
      memRead a s = .raise (.unmappedCpuAddress a .read) s ∧ memWrite a v s = .raise (.unmappedCpuAddress a .write) s)

/-- What a read can change: vblank and w at Status, the buffer and v at Data, the shift register at the controller, and
nothing at any other address (R74). -/
def Obligations.ReadFrame : Prop :=
  ∀ (a : Word) (b : Byte) (s t : State), memRead a s = .ok b t →
    (0x2000 ≤ a.toNat ∧ a.toNat ≤ 0x3FFF ∧ a.toNat % 8 = 2 ∧
      t = { s with ppu := { s.ppu with vblank := false, w := false } }) ∨
    (0x2000 ≤ a.toNat ∧ a.toNat ≤ 0x3FFF ∧ a.toNat % 8 = 7 ∧
      t = { s with ppu := { s.ppu with buffer := t.ppu.buffer, v := t.ppu.v } }) ∨
    (a = 0x4016 ∧ t = { s with ctl := { s.ctl with shift := t.ctl.shift } }) ∨
    t = s

/-- What a write can change, memory by memory and cell by cell: RAM at the cell it addresses; OAM at the cursor for
OAM-data and by an OAM DMA; palette RAM, nametables and patterns at the cell v addresses for Data; the PPU's registers
only through the PPU's addresses and the OAM DMA trigger; the controller only at 0x4016; never the CPU, the pixels, the
driver or the program ROM (R70, R74). -/
def Obligations.WriteFrame : Prop :=
  ∀ (a : Word) (v : Byte) (s t : State), memWrite a v s = .ok () t →
    t = { s with ram := t.ram, ppu := t.ppu, ctl := t.ctl, cart := t.cart, scratch := t.scratch } ∧
    (∀ k, ¬(a.toNat ≤ 0x1FFF ∧ k = a.toNat % 0x800) → t.ram.read k = s.ram.read k) ∧
    (¬(0x2000 ≤ a.toNat ∧ a.toNat ≤ 0x3FFF) → a ≠ 0x4014 → t.ppu = s.ppu) ∧
    (a ≠ 0x4014 → t.scratch = s.scratch) ∧ (a ≠ 0x4016 → t.ctl = s.ctl) ∧
    (a ≠ 0x4014 → ∀ k, ¬(0x2000 ≤ a.toNat ∧ a.toNat ≤ 0x3FFF ∧ a.toNat % 8 = 4 ∧ k = s.ppu.oamAddr.toNat) →
      t.ppu.oam.read k = s.ppu.oam.read k) ∧
    (∀ k, ¬(0x2000 ≤ a.toNat ∧ a.toNat ≤ 0x3FFF ∧ a.toNat % 8 = 7 ∧ 0x3F00 ≤ (dataAddress s.ppu.v).toNat
        ∧ k = palIndex (dataAddress s.ppu.v).toNat) → t.ppu.pal.read k = s.ppu.pal.read k) ∧
    (t.cart.prg = s.cart.prg) ∧
    (s.cfg.cart = .nrom →
      t.cart.external = s.cart.external ∧
      (∀ k, ¬(0x2000 ≤ a.toNat ∧ a.toNat ≤ 0x3FFF ∧ a.toNat % 8 = 7 ∧ (dataAddress s.ppu.v).toNat ≤ 0x1FFF
          ∧ k = (dataAddress s.ppu.v).toNat) → t.cart.chr.read k = s.cart.chr.read k) ∧
      (∀ k, ¬(0x2000 ≤ a.toNat ∧ a.toNat ≤ 0x3FFF ∧ a.toNat % 8 = 7 ∧ 0x2000 ≤ (dataAddress s.ppu.v).toNat
          ∧ (dataAddress s.ppu.v).toNat ≤ 0x3EFF ∧ k = ntCell s.cfg.mirroring (dataAddress s.ppu.v)) →
        t.cart.ciram.read k = s.cart.ciram.read k))

/-- The default cartridge's program window: the image's byte, one 16 KB bank appearing at both 0x8000 and 0xC000; a write
raises or does nothing, by `PRG_WRITE`; below 0x8000 nothing is mapped (R85, R88). -/
def Obligations.DefaultProgramWindow : Prop :=
  ∀ (a : Word) (v : Byte) (s : State), s.cfg.cart = .nrom →
    (0x8000 ≤ a.toNat →
      memRead a s =
        .ok (s.cart.prg.read ((a.toNat - 0x8000) % (if s.cfg.prgBanks = .one then 0x4000 else 0x8000))) s ∧
      memWrite a v s =
        if s.cfg.prgWrite = .fatal then .raise (.unmappedCpuAddress a .write) s else .ok () s) ∧
    (0x8000 ≤ a.toNat → a.toNat < 0xC000 → s.cfg.prgBanks = .one → ∀ b,
      memRead a s = .ok b s ↔ memRead (a + 0x4000) s = .ok b s) ∧
    (0x4020 ≤ a.toNat → a.toNat < 0x8000 →
      memRead a s = .raise (.unmappedCpuAddress a .read) s ∧ memWrite a v s = .raise (.unmappedCpuAddress a .write) s)

/-- The PPU bus: a write in the palette's range is read back at every address of the same cell, the four pairs 0x10/0x00,
0x14/0x04, 0x18/0x08 and 0x1C/0x0C being one cell each, and changes no other cell. Under the default cartridge, a write
in the nametables' range is read back at every address the mirroring puts on its cell and changes no other; and a write
in the patterns' range follows `CHR_WRITE`: read back and changing no other byte, or doing nothing, or raising (R78,
R81, R83, R86, R87). -/
def Obligations.PpuBusReadsBack : Prop :=
  ∀ (a b : Word) (v : Byte) (s : State),
    (∀ t, ppuWrite a v s = .ok () t →
      (0x3F00 ≤ a.toNat → a.toNat ≤ 0x3FFF → 0x3F00 ≤ b.toNat → b.toNat ≤ 0x3FFF →
        ∃ before, ppuRead b s = .ok before s ∧
          ppuRead b t = .ok (if b.toNat % 32 = a.toNat % 32
              ∨ (a.toNat % 4 = 0 ∧ b.toNat % 16 = a.toNat % 16) then v else before) t) ∧
      (s.cfg.cart = .nrom → 0x2000 ≤ a.toNat → a.toNat ≤ 0x3EFF → 0x2000 ≤ b.toNat → b.toNat ≤ 0x3EFF →
        ∃ before, ppuRead b s = .ok before s ∧
          ppuRead b t = .ok (if b.toNat % 0x400 = a.toNat % 0x400
              ∧ (if s.cfg.mirroring = .vertical then b.toNat / 0x400 % 2 = a.toNat / 0x400 % 2
                else b.toNat / 0x800 % 2 = a.toNat / 0x800 % 2) then v else before) t)) ∧
    (s.cfg.cart = .nrom → a.toNat ≤ 0x1FFF → b.toNat ≤ 0x1FFF →
      ppuRead b s = .ok (s.cart.chr.read b.toNat) s ∧
      (s.cfg.chrWrite = .fatal → ppuWrite a v s = .raise (.unmappedPpuAddress a .write) s) ∧
      (s.cfg.chrWrite = .ignore → ppuWrite a v s = .ok () s) ∧
      (s.cfg.chrWrite = .ram → ∃ t, ppuWrite a v s = .ok () t ∧ t = { s with cart := { s.cart with chr := t.cart.chr } } ∧
        ppuRead b t = .ok (if b = a then v else s.cart.chr.read b.toNat) t))

/-! ## The PPU's registers -/

/-- The OAM ports, at every mirror: a write of OAM-address sets the cursor; a write of OAM-data stores at the cursor and moves
it on, from 0xFF to 0x00; a read of OAM-data returns the byte at the cursor, which does not move (R265, R266, R267). -/
def Obligations.OamPorts : Prop :=
  ∀ (a : Word) (d : Byte) (s : State), 0x2000 ≤ a.toNat → a.toNat ≤ 0x3FFF →
    (a.toNat % 8 = 3 → memWrite a d s = .ok () { s with ppu := { s.ppu with oamAddr := d } }) ∧
    (a.toNat % 8 = 4 → memWrite a d s = .ok () { s with ppu := { s.ppu with
      oam := s.ppu.oam.write s.ppu.oamAddr.toNat d
      oamAddr := if s.ppu.oamAddr = 0xFF then 0 else s.ppu.oamAddr + 1 } }) ∧
    (a.toNat % 8 = 4 → memRead a s = .ok (s.ppu.oam.read s.ppu.oamAddr.toNat) s)

/-- Control, Mask, Status and Scroll, at every mirror: a write of Control stores the byte and copies its two nametable bits into bits 11
and 10 of t; a write of Mask stores the byte; a read of Status returns vblank in bit 7 and zeros, and clears vblank
and w; a write of Status does nothing. The scroll port's first write gives coarse x and fine x, its second fine y and
coarse y; the toggle w says which, and v is never written. A read of Control, Mask, OAM-address, Scroll or Address
returns 0 and changes nothing (R261-R264, R268, R272). -/
def Obligations.ControlMaskStatusScroll : Prop :=
  ∀ (a : Word) (d : Byte) (s : State), 0x2000 ≤ a.toNat → a.toNat ≤ 0x3FFF →
    (a.toNat % 8 ∈ [0, 1, 3, 5, 6] → memRead a s = .ok 0 s) ∧
    (a.toNat % 8 = 0 → ∃ t : BitVec 15,
      (∀ k, t.getLsbD k = if k = 10 then d.getLsbD 0 else if k = 11 then d.getLsbD 1 else s.ppu.t.getLsbD k) ∧
      memWrite a d s = .ok () { s with ppu := { s.ppu with ctrl := d, t := t } }) ∧
    (a.toNat % 8 = 1 → memWrite a d s = .ok () { s with ppu := { s.ppu with mask := d } }) ∧
    (a.toNat % 8 = 2 → memWrite a d s = .ok () s ∧
      memRead a s = .ok (if s.ppu.vblank then 0x80 else 0) { s with ppu := { s.ppu with vblank := false, w := false } }) ∧
    (a.toNat % 8 = 5 → s.ppu.w = false → ∃ (t : BitVec 15) (x : BitVec 3),
      (∀ k, t.getLsbD k = if k < 5 then d.getLsbD (k + 3) else s.ppu.t.getLsbD k) ∧
      (∀ k, x.getLsbD k = (decide (k < 3) && d.getLsbD k)) ∧
      memWrite a d s = .ok () { s with ppu := { s.ppu with t := t, x := x, w := true } }) ∧
    (a.toNat % 8 = 5 → s.ppu.w = true → ∃ t : BitVec 15,
      (∀ k, t.getLsbD k = if 12 ≤ k ∧ k < 15 then d.getLsbD (k - 12)
        else if 5 ≤ k ∧ k < 10 then d.getLsbD (k - 2) else s.ppu.t.getLsbD k) ∧
      memWrite a d s = .ok () { s with ppu := { s.ppu with t := t, w := false } })

/-- The address port, at every mirror: the first write puts the low six bits of the byte into bits 13 to 8 of t and clears bit
14; the second puts the byte into bits 7 to 0 of t and commits t into v; then a write is a first write again. Writes of
0x3F and 0x00 give v = 0x3F00 (R269). -/
def Obligations.AddressPort : Prop :=
  ∀ (a : Word) (s : State), 0x2000 ≤ a.toNat → a.toNat ≤ 0x3FFF → a.toNat % 8 = 6 →
    (∀ d : Byte, s.ppu.w = false → ∃ t : BitVec 15,
      (∀ k, t.getLsbD k = if 8 ≤ k ∧ k < 14 then d.getLsbD (k - 8) else (decide (k < 8) && s.ppu.t.getLsbD k)) ∧
      memWrite a d s = .ok () { s with ppu := { s.ppu with t := t, w := true } }) ∧
    (∀ d : Byte, s.ppu.w = true → ∃ t : BitVec 15,
      (∀ k, t.getLsbD k = if k < 8 then d.getLsbD k else s.ppu.t.getLsbD k) ∧
      memWrite a d s = .ok () { s with ppu := { s.ppu with t := t, v := t, w := false } }) ∧
    (s.ppu.w = false → ∃ t, memWrite a 0x3F s = .ok () t ∧
      memWrite a 0x00 t = .ok () { s with ppu := { s.ppu with t := 0x3F00, v := 0x3F00 } })

/-- A Data write, at every mirror, writes the PPU bus at v and then increments v; when the PPU bus write raises, v is not
incremented. Writing 0xAB with v = 0x3F10 and an increment of 1 writes palette cell 0 and leaves v = 0x3F11 (R270). -/
def Obligations.DataWrite : Prop :=
  ∀ (a : Word) (d : Byte) (s : State), 0x2000 ≤ a.toNat → a.toNat ≤ 0x3FFF → a.toNat % 8 = 7 →
    (∀ t, ppuWrite (s.ppu.v.setWidth 16) d s = .ok () t →
      memWrite a d s = .ok () { t with ppu := t.ppu.increment }) ∧
    (∀ k t, ppuWrite (s.ppu.v.setWidth 16) d s = .raise k t →
      memWrite a d s = .raise k t ∧ t.ppu.v = s.ppu.v) ∧
    (s.ppu.v = 0x3F10 → s.ppu.ctrl.getLsbD 2 = false → d = 0xAB →
      memWrite a d s = .ok () { s with ppu := { s.ppu with pal := s.ppu.pal.write 0 0xAB, v := 0x3F11 } })

/-- A Data read, at every mirror: beyond the PPU bus it raises or is folded, by `PPU_ADDR_HIGH`; below the palette it returns
the buffer and fills it from the bus; in the palette it returns the cell at once, and the buffer follows
`PAL_READ_BUFFER`; then v moves on by 1 or 32, wrapping in 15 bits (R82, R271, R273). -/
def Obligations.DataRead : Prop :=
  ∀ (a : Word) (s : State), 0x2000 ≤ a.toNat → a.toNat ≤ 0x3FFF → a.toNat % 8 = 7 →
    (0x4000 ≤ s.ppu.v.toNat → s.cfg.ppuAddrHigh = .fatal →
      memRead a s = .raise (.unmappedPpuAddress (s.ppu.v.setWidth 16) .read) s) ∧
    (s.ppu.v.toNat < 0x4000 ∨ s.cfg.ppuAddrHigh = .mask14 → ∀ (at14 : Word) (next : BitVec 15),
      at14.toNat = s.ppu.v.toNat % 0x4000 →
      next.toNat = (s.ppu.v.toNat + (if s.ppu.ctrl.getLsbD 2 then 32 else 1)) % 0x8000 →
      (at14.toNat < 0x3F00 → ∀ b, ppuRead at14 s = .ok b s →
        memRead a s = .ok s.ppu.buffer { s with ppu := { s.ppu with buffer := b, v := next } }) ∧
      (0x3F00 ≤ at14.toNat → s.cfg.palReadBuffer = .unchanged →
        memRead a s = .ok (s.ppu.pal.read (palIndex at14.toNat)) { s with ppu := { s.ppu with v := next } }) ∧
      (0x3F00 ≤ at14.toNat → s.cfg.palReadBuffer = .underlying → ∀ b, ppuRead (at14 - 0x1000) s = .ok b s →
        memRead a s = .ok (s.ppu.pal.read (palIndex at14.toNat))
          { s with ppu := { s.ppu with buffer := b, v := next } }))

/-! ## The controller and OAM DMA -/

/-- A write of 0x4016 sets the strobe from bit 0 alone, and a strobe set reloads the shift register from the buttons;
nothing else changes (R312). -/
def Obligations.ControllerStrobe : Prop :=
  ∀ (d : Byte) (s : State),
    memWrite 0x4016 d s = .ok () { s with ctl := { s.ctl with
      strobe := d.getLsbD 0, shift := if d.getLsbD 0 then s.ctl.buttons else s.ctl.shift } }

/-- Reads of 0x4016: with the strobe off, the bits of the shift register from the lowest up, and zeros from the ninth on, only
the shift register moving; with it on, the A button for ever, nothing moving (R311, R313). The last holds under the
strobe's invariant, which every step keeps. -/
def Obligations.ControllerReads : Prop :=
  ∀ (n : Nat) (s : State),
    (s.ctl.strobe = false →
      readTimes n 0x4016 s = .ok ((List.range n).map fun k => if s.ctl.shift.getLsbD k then 1 else 0)
        { s with ctl := { s.ctl with shift := s.ctl.shift >>> n } }) ∧
    (s.ctl.strobe = true → s.ctl.shift = s.ctl.buttons →
      readTimes n 0x4016 s = .ok (List.replicate n (if s.ctl.buttons.getLsbD 0 then 1 else 0)) s)

/-- An OAM DMA copies the 256 bytes its reads of the page return into OAM from the cursor on, wrapping, leaves the cursor
where it was, and stalls for 514 cycles, changing nothing but what its reads change. From a page of RAM these are the
bytes of RAM; from a page of the default cartridge's program ROM, the bytes of the ROM; from a page of PPU registers,
for each eight bytes, zeros at the write-only registers, vblank in bit 7 the first time Status is read, the byte OAM
had there at OAM-data, and the next byte a run of Data reads returns, with vblank and w cleared and v and the buffer as
those 32 Data reads leave them. From page 0x40 it raises at 0x4018, having written 24 bytes of OAM and shifted the
controller; from a page between 0x41 and 0x7F, under the default cartridge, it raises at once (R88, R315, R316, R374). -/
def Obligations.OamDmaCopiesAPage : Prop :=
  (∀ (page : Byte) (s : State), page.toNat < 0x20 → ∃ oam : Memory,
    memWrite 0x4014 page s = .ok ()
      { s with ppu := { s.ppu with oam := oam }, scratch := { s.scratch with dmaStall := 514 } } ∧
    ∀ i < 256, oam.read ((s.ppu.oamAddr.toNat + i) % 256) = s.ram.read ((page.toNat * 256 + i) % 0x800)) ∧
  (∀ (page : Byte) (s : State), 0x80 ≤ page.toNat → s.cfg.cart = .nrom → ∃ oam : Memory,
    memWrite 0x4014 page s = .ok ()
      { s with ppu := { s.ppu with oam := oam }, scratch := { s.scratch with dmaStall := 514 } } ∧
    ∀ i < 256, oam.read ((s.ppu.oamAddr.toNat + i) % 256) =
      s.cart.prg.read ((page.toNat * 256 + i - 0x8000) % (if s.cfg.prgBanks = .one then 0x4000 else 0x8000))) ∧
  (∀ (page : Byte) (s u : State) (bytes : List Byte), 0x20 ≤ page.toNat → page.toNat < 0x40 →
    readTimes 32 0x2007 s = .ok bytes u → ∃ oam : Memory,
    memWrite 0x4014 page s = .ok ()
      { s with
        ppu := { s.ppu with oam := oam, vblank := false, w := false, v := u.ppu.v, buffer := u.ppu.buffer }
        scratch := { s.scratch with dmaStall := 514 } } ∧
    ∀ i < 256, some (oam.read ((s.ppu.oamAddr.toNat + i) % 256)) =
      if i % 8 = 7 then bytes[i / 8]?
      else if i % 8 = 4 then some (s.ppu.oam.read ((s.ppu.oamAddr.toNat + i) % 256))
      else if i = 2 ∧ s.ppu.vblank = true then some 0x80
      else some 0) ∧
  (∀ s : State, ∃ oam : Memory,
    memWrite 0x4014 0x40 s = .raise (.unmappedCpuAddress 0x4018 .read)
      { s with
        ppu := { s.ppu with oam := oam, oamAddr := s.ppu.oamAddr + 0x18 }
        ctl := { s.ctl with shift := if s.ctl.strobe then s.ctl.shift else s.ctl.shift >>> 1 } } ∧
    (∀ i < 256, oam.read ((s.ppu.oamAddr.toNat + i) % 256) =
      if i = 0x16 then s.ctl.shift &&& 1 else if i < 0x18 then 0
      else s.ppu.oam.read ((s.ppu.oamAddr.toNat + i) % 256))) ∧
  (∀ (page : Byte) (s : State), 0x41 ≤ page.toNat → page.toNat < 0x80 → s.cfg.cart = .nrom →
    memWrite 0x4014 page s = .raise (.unmappedCpuAddress (page ++ (0 : Byte)) .read) s)

/-! ## Rendering -/

/-- With sprites hidden, and every palette byte below 0x40 or `PAL_RANGE = Mask6`, a visible scanline renders under the default
cartridge: each of its 256 pixels is the colour of its background palette index, the low six bits of the palette byte
selecting it, and no pixel of another line changes (R290-R297, R305). -/
def Obligations.BackgroundOfAScanline : Prop :=
  ∀ (sl : Nat) (s : State), sl ≤ 239 → s.cfg.cart = .nrom → s.ppu.mask.getLsbD 4 = false →
    ((∀ k, (s.ppu.pal.read k).toNat < 0x40) ∨ s.cfg.palRange = .mask6) →
    ∃ fb : PixelBuffer, renderScanline sl s = .ok () { s with fb := fb } ∧
      (∀ x < 256, some (pixelAt fb x sl) =
        s.cfg.systemPalette[(s.ppu.pal.read (backgroundIndex s sl x)).toNat % 64]?) ∧
      (∀ (row x : Nat), row ≤ 239 → row ≠ sl → x < 256 → pixelAt fb x row = pixelAt s.fb x row)

/-- With sprites shown, and every palette byte below 0x40 or `PAL_RANGE = Mask6`, a visible scanline renders under the default
cartridge: each of its 256 pixels is the colour of the palette index on top there. That is the index of the sprite
`SPRITE_ORDER` puts on top among the first eight visible ones that are opaque at the pixel, from the sprite's pattern
row with its flips and the palette its attribute byte selects, whatever its priority bit is; and the background's where
no sprite is opaque. No pixel of another line changes (R290, R295, R297-R305). -/
def Obligations.SpritesOfAScanline : Prop :=
  ∀ (sl : Nat) (s : State), sl ≤ 239 → s.cfg.cart = .nrom → s.ppu.mask.getLsbD 4 = true →
    ((∀ k, (s.ppu.pal.read k).toNat < 0x40) ∨ s.cfg.palRange = .mask6) →
    ∃ fb : PixelBuffer, renderScanline sl s = .ok () { s with fb := fb } ∧
      (∀ x < 256, some (pixelAt fb x sl) = s.cfg.systemPalette[(s.ppu.pal.read (shownIndex s sl x)).toNat % 64]?) ∧
      (∀ (row x : Nat), row ≤ 239 → row ≠ sl → x < 256 → pixelAt fb x row = pixelAt s.fb x row)

/-- `PAL_RANGE`: a palette byte below 0x40 is its entry of `SYSTEM_PALETTE`, and one from 0x40 up is the entry of its low six
bits under `Mask6` and raises under `Fatal`. Under `Fatal` and the default cartridge, the first background pixel of a
visible scanline with such a byte stops the render: the pixels before it stay drawn, and no other pixel changes (R12,
R290, R295). -/
def Obligations.PaletteByteOutOfRange : Prop :=
  (∀ (p : Byte) (s : State),
    (p.toNat < 0x40 ∨ s.cfg.palRange = .mask6 →
      ∃ c, colour p s = .ok c s ∧ some c = s.cfg.systemPalette[p.toNat % 64]?) ∧
    (0x40 ≤ p.toNat → s.cfg.palRange = .fatal → colour p s = .raise (.paletteRange p) s)) ∧
  (∀ (sl x : Nat) (p : Byte) (s : State), sl ≤ 239 → x < 256 → s.cfg.cart = .nrom → s.cfg.palRange = .fatal →
    p = s.ppu.pal.read (backgroundIndex s sl x) → 0x40 ≤ p.toNat →
    (∀ y < x, (s.ppu.pal.read (backgroundIndex s sl y)).toNat < 0x40) →
    ∃ fb : PixelBuffer, renderScanline sl s = .raise (.paletteRange p) { s with fb := fb } ∧
      (∀ y < x, some (pixelAt fb y sl) = s.cfg.systemPalette[(s.ppu.pal.read (backgroundIndex s sl y)).toNat]?) ∧
      (∀ (row y : Nat), row ≤ 239 → y < 256 → row ≠ sl ∨ x ≤ y → pixelAt fb y row = pixelAt s.fb y row))

/-- The sprite cap: at most eight sprites are drawn on a scanline, the first visible ones in index order, and a visible one
beyond them contributes no pixels: whatever its tile, attributes and x are, the scanline renders the same, and nothing
else records the drop (R299). -/
def Obligations.NinthSpriteIsDropped : Prop :=
  ∀ (sl j : Nat) (s : State),
    (visibleSprites s.ppu sl).length ≤ 8 ∧
    (j < 64 → spriteVisible s.ppu sl j = true → j ∉ visibleSprites s.ppu sl →
      (visibleSprites s.ppu sl).length = 8 ∧ (∀ i ∈ visibleSprites s.ppu sl, i < j) ∧
      ∀ (oam : Memory) (t : State), (∀ k, k / 4 ≠ j → oam.read k = s.ppu.oam.read k) →
        oam.read (4 * j) = s.ppu.oam.read (4 * j) → renderScanline sl s = .ok () t →
        renderScanline sl { s with ppu := { s.ppu with oam := oam } } =
          .ok () { t with ppu := { t.ppu with oam := oam } })

/-! ## Instructions: results and completion

Each statement's conclusion is the next state, for every form of the instructions it names. -/

/-- LDA, LDX, LDY and LAX put the operand's byte m into their register or registers, with Z and N from it (R27, R140-R142,
R241). -/
def Obligations.Loads : Prop :=
  ∀ (i : Instr) (s : State), operandReadable i.operand s = true → ∃ m t, readOperand i.operand s = .ok m t ∧
    (i.mnemonic = .lda → exec i s = .next { t with cpu := { t.cpu with
      a := m, flags := { t.cpu.flags with z := decide (m = 0), n := m.getLsbD 7 } } }) ∧
    (i.mnemonic = .ldx → exec i s = .next { t with cpu := { t.cpu with
      x := m, flags := { t.cpu.flags with z := decide (m = 0), n := m.getLsbD 7 } } }) ∧
    (i.mnemonic = .ldy → exec i s = .next { t with cpu := { t.cpu with
      y := m, flags := { t.cpu.flags with z := decide (m = 0), n := m.getLsbD 7 } } }) ∧
    (i.mnemonic = .lax → exec i s = .next { t with cpu := { t.cpu with
      a := m, x := m, flags := { t.cpu.flags with z := decide (m = 0), n := m.getLsbD 7 } } })

/-- ADC adds the operand's byte and the carry to A, and SBC its complement: the sum is exact until it is truncated, C is the
carry out, V is set exactly when the two addends have the same sign and the result the other, Z and N come from the
result, and D is not consulted (R161, R163, R164, R243). -/
def Obligations.AddAndSubtract : Prop :=
  ∀ (i : Instr) (s : State), operandReadable i.operand s = true → ∃ m t, readOperand i.operand s = .ok m t ∧
    ∀ (x r : Byte) (sum : Nat), (i.mnemonic = .adc ∧ x = m) ∨ (i.mnemonic = .sbc ∧ x = 0xFF - m) →
      sum = t.cpu.a.toNat + x.toNat + (if t.cpu.flags.c then 1 else 0) → r.toNat = sum % 256 →
      exec i s = .next { t with cpu := { t.cpu with
        a := r
        flags := { t.cpu.flags with
          c := decide (255 < sum)
          v := decide (t.cpu.a.getLsbD 7 = x.getLsbD 7 ∧ r.getLsbD 7 ≠ x.getLsbD 7)
          z := decide (r = 0)
          n := r.getLsbD 7 } } }

/-- AND, ORA and EOR combine the operand's byte into A, bit by bit, with Z and N from A. CMP, CPX and CPY compare A, X or Y with
it: C is "not below", Z is "equal", N is bit 7 of the difference, no register changes. BIT puts bits 7 and 6 of it into N
and V, and Z from A and it (R162, R165-R171). -/
def Obligations.LogicCompareBit : Prop :=
  ∀ (i : Instr) (s : State), operandReadable i.operand s = true → ∃ m t, readOperand i.operand s = .ok m t ∧
    (∀ r : Byte,
      (i.mnemonic = .and ∧ ∀ k, r.getLsbD k = (t.cpu.a.getLsbD k && m.getLsbD k)) ∨
      (i.mnemonic = .ora ∧ ∀ k, r.getLsbD k = (t.cpu.a.getLsbD k || m.getLsbD k)) ∨
      (i.mnemonic = .eor ∧ ∀ k, r.getLsbD k = (t.cpu.a.getLsbD k != m.getLsbD k)) →
      exec i s = .next { t with cpu := { t.cpu with
        a := r, flags := { t.cpu.flags with z := decide (r = 0), n := r.getLsbD 7 } } }) ∧
    (∀ r : Byte, (i.mnemonic = .cmp ∧ r = t.cpu.a) ∨ (i.mnemonic = .cpx ∧ r = t.cpu.x) ∨ (i.mnemonic = .cpy ∧ r = t.cpu.y) →
      exec i s = .next { t with cpu := { t.cpu with flags := { t.cpu.flags with
        c := decide (m.toNat ≤ r.toNat), z := decide (r = m), n := (r - m).getLsbD 7 } } }) ∧
    (i.mnemonic = .bit → exec i s = .next { t with cpu := { t.cpu with flags := { t.cpu.flags with
        z := decide (t.cpu.a &&& m = 0), n := m.getLsbD 7, v := m.getLsbD 6 } } })

/-- STA, STX, STY and SAX store A, X, Y or A AND X at the effective address, without reading it, and change nothing but
what that one bus write changes; in RAM that is the one byte (R136, R143-R145, R242). -/
def Obligations.Stores : Prop :=
  ∀ (i : Instr) (s : State) (a : Word) (v : Byte),
    (i.mnemonic = .sta ∧ v = s.cpu.a) ∨ (i.mnemonic = .stx ∧ v = s.cpu.x) ∨ (i.mnemonic = .sty ∧ v = s.cpu.y)
      ∨ (i.mnemonic = .sax ∧ v = s.cpu.a &&& s.cpu.x) →
    effectiveAddress i.operand s = some a → writable s a v = true →
    ∃ t, memWrite a v (resolved i.operand s) = .ok () t ∧ exec i s = .next t ∧
      (a.toNat ≤ 0x1FFF → t = { resolved i.operand s with ram := s.ram.write (a.toNat % 0x800) v })

/-- The register transfers and the register increments and decrements: the destination, Z and N from it, and nothing else;
TXS sets no flag (R27, R146-R151, R174-R177). -/
def Obligations.RegisterMoves : Prop :=
  ∀ (s : State) (nz : Byte → Flags), (∀ r, nz r = { s.cpu.flags with z := decide (r = 0), n := r.getLsbD 7 }) →
    exec .tax s = .next { resolved .imp s with cpu := { s.cpu with x := s.cpu.a, flags := nz s.cpu.a } } ∧
    exec .tay s = .next { resolved .imp s with cpu := { s.cpu with y := s.cpu.a, flags := nz s.cpu.a } } ∧
    exec .txa s = .next { resolved .imp s with cpu := { s.cpu with a := s.cpu.x, flags := nz s.cpu.x } } ∧
    exec .tya s = .next { resolved .imp s with cpu := { s.cpu with a := s.cpu.y, flags := nz s.cpu.y } } ∧
    exec .tsx s = .next { resolved .imp s with cpu := { s.cpu with x := s.cpu.sp, flags := nz s.cpu.sp } } ∧
    exec .txs s = .next { resolved .imp s with cpu := { s.cpu with sp := s.cpu.x } } ∧
    exec .inx s = .next { resolved .imp s with cpu := { s.cpu with x := s.cpu.x + 1, flags := nz (s.cpu.x + 1) } } ∧
    exec .iny s = .next { resolved .imp s with cpu := { s.cpu with y := s.cpu.y + 1, flags := nz (s.cpu.y + 1) } } ∧
    exec .dex s = .next { resolved .imp s with cpu := { s.cpu with x := s.cpu.x - 1, flags := nz (s.cpu.x - 1) } } ∧
    exec .dey s = .next { resolved .imp s with cpu := { s.cpu with y := s.cpu.y - 1, flags := nz (s.cpu.y - 1) } }

/-- The flag instructions write their one flag and nothing else; and every NOP, documented or not, in every mode, completes from
every state and changes nothing: only `crossed` is set for the cycle count, and the effective address is not read
(R224-R231, R250). -/
def Obligations.FlagWritesAndNops : Prop :=
  ∀ s : State,
    exec .clc s = .next { resolved .imp s with cpu := { s.cpu with flags := { s.cpu.flags with c := false } } } ∧
    exec .cld s = .next { resolved .imp s with cpu := { s.cpu with flags := { s.cpu.flags with d := false } } } ∧
    exec .cli s = .next { resolved .imp s with cpu := { s.cpu with flags := { s.cpu.flags with i := false } } } ∧
    exec .clv s = .next { resolved .imp s with cpu := { s.cpu with flags := { s.cpu.flags with v := false } } } ∧
    exec .sec s = .next { resolved .imp s with cpu := { s.cpu with flags := { s.cpu.flags with c := true } } } ∧
    exec .sed s = .next { resolved .imp s with cpu := { s.cpu with flags := { s.cpu.flags with d := true } } } ∧
    exec .sei s = .next { resolved .imp s with cpu := { s.cpu with flags := { s.cpu.flags with i := true } } } ∧
    ∀ i : Instr, i.mnemonic = .nop → exec i s = .next (resolved i.operand s)

/-- ASL, LSR, ROL and ROR, on A and on memory: the result, C from the bit shifted out, Z and N from the result, with the old C
shifted in by the rotates (R190-R194). -/
def Obligations.Shifts : Prop :=
  ∀ (i : Instr) (s : State) (result : Byte → Byte) (carry : Byte → Bool),
    (i.mnemonic = .asl ∧ (∀ m k, (result m).getLsbD k = (decide (0 < k ∧ k < 8) && m.getLsbD (k - 1)))
      ∧ ∀ m, carry m = m.getLsbD 7) ∨
    (i.mnemonic = .lsr ∧ (∀ m k, (result m).getLsbD k = m.getLsbD (k + 1)) ∧ ∀ m, carry m = m.getLsbD 0) ∨
    (i.mnemonic = .rol ∧ (∀ m k, (result m).getLsbD k =
      if k = 0 then s.cpu.flags.c else (decide (k < 8) && m.getLsbD (k - 1))) ∧ ∀ m, carry m = m.getLsbD 7) ∨
    (i.mnemonic = .ror ∧ (∀ m k, (result m).getLsbD k = if k = 7 then s.cpu.flags.c else m.getLsbD (k + 1))
      ∧ ∀ m, carry m = m.getLsbD 0) →
    (i.operand = .acc → exec i s = .next { resolved .acc s with cpu := { s.cpu with
      a := result s.cpu.a
      flags := { s.cpu.flags with
        c := carry s.cpu.a, z := decide (result s.cpu.a = 0), n := (result s.cpu.a).getLsbD 7 } } }) ∧
    RmwTo i s result carry fun r u =>
      { u with cpu := { u.cpu with flags := { u.cpu.flags with z := decide (r = 0), n := r.getLsbD 7 } } }

/-- INC and DEC add or subtract one at the effective address, Z and N from the result; DCP decrements and compares A with the
result (R162, R172, R173, R190, R244). -/
def Obligations.IncrementAndDecrement : Prop :=
  ∀ (i : Instr) (s : State),
    (i.mnemonic = .inc → RmwTo i s (fun m => m + 1) (fun _ => s.cpu.flags.c) fun r u =>
      { u with cpu := { u.cpu with flags := { u.cpu.flags with z := decide (r = 0), n := r.getLsbD 7 } } }) ∧
    (i.mnemonic = .dec → RmwTo i s (fun m => m - 1) (fun _ => s.cpu.flags.c) fun r u =>
      { u with cpu := { u.cpu with flags := { u.cpu.flags with z := decide (r = 0), n := r.getLsbD 7 } } }) ∧
    (i.mnemonic = .dcp → RmwTo i s (fun m => m - 1) (fun _ => s.cpu.flags.c) fun r u =>
      { u with cpu := { u.cpu with flags := { u.cpu.flags with
        c := decide (r.toNat ≤ u.cpu.a.toNat), z := decide (u.cpu.a = r), n := (u.cpu.a - r).getLsbD 7 } } })

/-- SLO, RLA and SRE shift or rotate memory and combine the byte written into A; ISB increments memory and subtracts the byte
written from A; RRA rotates memory and adds the byte written to A with the carry the rotate produced (R190,
R245-R249). The shifts' results are those of `Obligations.Shifts`, the additions those of `Obligations.AddAndSubtract`. -/
def Obligations.CombinedModifiers : Prop :=
  ∀ (i : Instr) (s : State),
    (i.mnemonic = .slo → RmwTo i s (fun m => m <<< 1) (fun m => m.getLsbD 7) fun r u =>
      { u with cpu := { u.cpu with a := u.cpu.a ||| r, flags := { u.cpu.flags with
        z := decide (u.cpu.a ||| r = 0), n := (u.cpu.a ||| r).getLsbD 7 } } }) ∧
    (i.mnemonic = .rla → RmwTo i s (fun m => m <<< 1 ||| (if s.cpu.flags.c then 1 else 0)) (fun m => m.getLsbD 7)
      fun r u => { u with cpu := { u.cpu with a := u.cpu.a &&& r, flags := { u.cpu.flags with
        z := decide (u.cpu.a &&& r = 0), n := (u.cpu.a &&& r).getLsbD 7 } } }) ∧
    (i.mnemonic = .sre → RmwTo i s (fun m => m >>> 1) (fun m => m.getLsbD 0) fun r u =>
      { u with cpu := { u.cpu with a := u.cpu.a ^^^ r, flags := { u.cpu.flags with
        z := decide (u.cpu.a ^^^ r = 0), n := (u.cpu.a ^^^ r).getLsbD 7 } } }) ∧
    (i.mnemonic = .isb → RmwTo i s (fun m => m + 1) (fun _ => s.cpu.flags.c) fun r u => u.addWithCarry (0xFF - r)) ∧
    (i.mnemonic = .rra → RmwTo i s (fun m => m >>> 1 ||| (if s.cpu.flags.c then 0x80 else 0)) (fun m => m.getLsbD 0)
      fun r u => u.addWithCarry r)

/-- The branches: taken or not, the PC goes to the target or stays at the next instruction, the target counted from it and
wrapping mod 65536; `taken` and `crossed` are recorded for the cycle count and nothing else changes, no flag among it
(R200-R208). -/
def Obligations.Branches : Prop :=
  ∀ (i : Instr) (o : Byte) (cond : Bool) (s : State),
    (i = .bplRel o ∧ cond = !s.cpu.flags.n) ∨ (i = .bmiRel o ∧ cond = s.cpu.flags.n) ∨
    (i = .bvcRel o ∧ cond = !s.cpu.flags.v) ∨ (i = .bvsRel o ∧ cond = s.cpu.flags.v) ∨
    (i = .bccRel o ∧ cond = !s.cpu.flags.c) ∨ (i = .bcsRel o ∧ cond = s.cpu.flags.c) ∨
    (i = .bneRel o ∧ cond = !s.cpu.flags.z) ∨ (i = .beqRel o ∧ cond = s.cpu.flags.z) →
    ∀ target : Word, (target.toNat : Int) = (s.cpu.pc.toNat + o.toInt) % 65536 →
      exec i s = .next { s with
        cpu := { s.cpu with pc := if cond then target else s.cpu.pc }
        scratch := { s.scratch with taken := cond, crossed := decide (target.toNat / 256 ≠ s.cpu.pc.toNat / 256) } }

/-- JMP goes to the operand word, or to the word the page-wrapping pointer read finds, with the side effects of its two reads; JSR
pushes the address of its last byte, high byte first, and goes to the operand word; RTS pulls it and goes one past it; so
RTS after JSR comes back to the instruction after the JSR with S restored (R209-R211). -/
def Obligations.JumpsCallsReturns : Prop :=
  ∀ s : State,
    (∀ l h, exec (.jmpAbs l h) s = .next { resolved (.abs l h) s with cpu := { s.cpu with pc := h ++ l } }) ∧
    (∀ l h : Byte, readable s (h ++ l) = true → readable s (h ++ (l + 1)) = true →
      ∃ lo hi t u, memRead (h ++ l) s = .ok lo t ∧ memRead (h ++ (l + 1)) t = .ok hi u ∧
        exec (.jmpInd l h) s = .next { u with
          cpu := { u.cpu with pc := hi ++ lo }, scratch := { u.scratch with crossed := false } }) ∧
    (∀ l h, exec (.jsrAbs l h) s = .next { resolved (.abs l h) s with
      cpu := { s.cpu with pc := h ++ l, sp := s.cpu.sp - 2 }
      ram := (s.ram.write (0x100 + s.cpu.sp.toNat) (hiByte (s.cpu.pc - 1))).write
        (0x100 + (s.cpu.sp - 1).toNat) (loByte (s.cpu.pc - 1)) }) ∧
    (exec .rts s = .next { resolved .imp s with cpu := { s.cpu with
      pc := (s.ram.read (0x100 + (s.cpu.sp + 2).toNat) ++ s.ram.read (0x100 + (s.cpu.sp + 1).toNat)) + 1
      sp := s.cpu.sp + 2 } }) ∧
    (∀ l h t u, exec (.jsrAbs l h) s = .next t → exec .rts t = .next u →
      u.cpu.pc = s.cpu.pc ∧ u.cpu.sp = s.cpu.sp)

/-- PHA and PHP push A and the status with bits 5 and 4 set; PLA and PLP pull them, PLA setting Z and N and PLP every flag with
bits 5 and 4 ignored; so PLP after PHP restores the six flags and S (R24-R29, R220-R223). -/
def Obligations.PushesAndPulls : Prop :=
  ∀ s : State,
    exec .pha s = .next { resolved .imp s with
      cpu := { s.cpu with sp := s.cpu.sp - 1 }, ram := s.ram.write (0x100 + s.cpu.sp.toNat) s.cpu.a } ∧
    (∀ p : Byte, (∀ k, p.getLsbD k = statusBit s.cpu.flags true k) →
      exec .php s = .next { resolved .imp s with
        cpu := { s.cpu with sp := s.cpu.sp - 1 }, ram := s.ram.write (0x100 + s.cpu.sp.toNat) p }) ∧
    (∀ m : Byte, m = s.ram.read (0x100 + (s.cpu.sp + 1).toNat) →
      exec .pla s = .next { resolved .imp s with cpu := { s.cpu with
        a := m, sp := s.cpu.sp + 1, flags := { s.cpu.flags with z := decide (m = 0), n := m.getLsbD 7 } } } ∧
      exec .plp s = .next { resolved .imp s with cpu := { s.cpu with
        sp := s.cpu.sp + 1
        flags := { n := m.getLsbD 7, v := m.getLsbD 6, d := m.getLsbD 3, i := m.getLsbD 2, z := m.getLsbD 1, c := m.getLsbD 0 } } }) ∧
    (∀ t u, exec .php s = .next t → exec .plp t = .next u → u.cpu.flags = s.cpu.flags ∧ u.cpu.sp = s.cpu.sp)

/-- BRK pushes the address two past its opcode and the status byte p with break bit 1, sets I and goes through the vector at
0xFFFE, touching neither `servicing` nor another flag; a vector byte that does not answer is the fault, with the three
bytes pushed and I set (R12, R24, R26, R213). RTI pulls the flags, then the PC, and ends the handler (R212, R340). -/
def Obligations.BreakAndReturn : Prop :=
  ∀ s : State,
    (∀ (p : Byte) (ret : Word) (u : State), (∀ k, p.getLsbD k = statusBit s.cpu.flags true k) → ret = s.cpu.pc + 1 →
      u = { resolved .imp s with
        cpu := { s.cpu with sp := s.cpu.sp - 3, flags := { s.cpu.flags with i := true } }
        ram := ((s.ram.write (0x100 + s.cpu.sp.toNat) (hiByte ret)).write (0x100 + (s.cpu.sp - 1).toNat) (loByte ret)).write
          (0x100 + (s.cpu.sp - 2).toNat) p } →
      (∀ lo hi : Byte, plainRead s 0xFFFE = some lo → plainRead s 0xFFFF = some hi →
        exec .brk s = .next { u with cpu := { u.cpu with pc := hi ++ lo } }) ∧
      exec .brk s = throughVector u 0xFFFE fun w => w) ∧
    (∀ p : Byte, p = s.ram.read (0x100 + (s.cpu.sp + 1).toNat) →
      exec .rti s = .next { resolved .imp s with cpu := { s.cpu with
        pc := s.ram.read (0x100 + (s.cpu.sp + 3).toNat) ++ s.ram.read (0x100 + (s.cpu.sp + 2).toNat)
        sp := s.cpu.sp + 3
        flags := { n := p.getLsbD 7, v := p.getLsbD 6, d := p.getLsbD 3, i := p.getLsbD 2, z := p.getLsbD 1, c := p.getLsbD 0 }
        servicing := false } })

/-- A push stores at 0x0100 + S, in RAM and so at its mirrors, and then decrements S; a pull increments S and then loads; S
wraps within its 8 bits (R28, R29). -/
def Obligations.PushAndPull : Prop :=
  ∀ (v : Byte) (s : State),
    (push v s = .ok () { s with
      ram := s.ram.write (0x100 + s.cpu.sp.toNat) v
      cpu := { s.cpu with sp := if s.cpu.sp = 0 then 0xFF else s.cpu.sp - 1 } }) ∧
    (∀ (t : State) (k : Nat), k < 4 → push v s = .ok () t →
      memRead (BitVec.ofNat 16 (k * 0x800 + 0x100 + s.cpu.sp.toNat)) t = .ok v t) ∧
    (∀ (b : Byte) (t : State), t = { s with cpu := { s.cpu with sp := if s.cpu.sp = 0xFF then 0 else s.cpu.sp + 1 } } →
      memRead (BitVec.ofNat 16 (0x100 + t.cpu.sp.toNat)) t = .ok b t → pull s = .ok b t)

/-! ## Instructions: frames and whole-machine rules -/

/-- The frame of the instructions that touch registers and flags alone: everything but the CPU's registers and the per-step
scratch is unchanged, every byte of memory among it; and each register and flag is unchanged but for those the spec
names for the instruction. -/
def Obligations.FrameOfRegisterInstructions : Prop :=
  ∀ (i : Instr) (s t : State), i.mnemonic ∈ registerOnly → exec i s = .next t →
    t = { s with
      cpu := { s.cpu with
        a := t.cpu.a, x := t.cpu.x, y := t.cpu.y, sp := t.cpu.sp, pc := t.cpu.pc, flags := t.cpu.flags }
      scratch := { s.scratch with crossed := t.scratch.crossed, taken := t.scratch.taken } } ∧
    (i.mnemonic ∉ [.txa, .tya] → t.cpu.a = s.cpu.a) ∧
    (i.mnemonic ∉ [.tax, .tsx, .inx, .dex] → t.cpu.x = s.cpu.x) ∧
    (i.mnemonic ∉ [.tay, .iny, .dey] → t.cpu.y = s.cpu.y) ∧
    (i.mnemonic ≠ .txs → t.cpu.sp = s.cpu.sp) ∧
    (i.mnemonic ∉ [.bpl, .bmi, .bvc, .bvs, .bcc, .bcs, .bne, .beq] → t.cpu.pc = s.cpu.pc) ∧
    (i.mnemonic ∉ [.tax, .tay, .txa, .tya, .tsx, .inx, .iny, .dex, .dey] →
      t.cpu.flags.n = s.cpu.flags.n ∧ t.cpu.flags.z = s.cpu.flags.z) ∧
    (i.mnemonic ≠ .clv → t.cpu.flags.v = s.cpu.flags.v) ∧
    (i.mnemonic ∉ [.cld, .sed] → t.cpu.flags.d = s.cpu.flags.d) ∧
    (i.mnemonic ∉ [.cli, .sei] → t.cpu.flags.i = s.cpu.flags.i) ∧
    (i.mnemonic ∉ [.clc, .sec] → t.cpu.flags.c = s.cpu.flags.c)

/-- The frame of the instructions that only read their operand: every byte of every memory is unchanged; the registers and flags
are unchanged but for those the spec names; and the devices are unchanged unless the address read is Status, Data or
the controller, whose reads have side effects (R74). -/
def Obligations.FrameOfReadingInstructions : Prop :=
  ∀ (i : Instr) (s t : State), i.mnemonic ∈ readers → exec i s = .next t →
    t = { s with
      cpu := { s.cpu with a := t.cpu.a, x := t.cpu.x, y := t.cpu.y, flags := t.cpu.flags }
      scratch := { s.scratch with crossed := t.scratch.crossed }
      ppu := { s.ppu with vblank := t.ppu.vblank, w := t.ppu.w, v := t.ppu.v, buffer := t.ppu.buffer }
      ctl := { s.ctl with shift := t.ctl.shift } } ∧
    (∀ a, plainRead t a = plainRead s a) ∧
    (i.mnemonic ∉ [.lda, .lax, .adc, .sbc, .and, .ora, .eor] → t.cpu.a = s.cpu.a) ∧
    (i.mnemonic ∉ [.ldx, .lax] → t.cpu.x = s.cpu.x) ∧
    (i.mnemonic ≠ .ldy → t.cpu.y = s.cpu.y) ∧
    t.cpu.flags.d = s.cpu.flags.d ∧ t.cpu.flags.i = s.cpu.flags.i ∧
    (i.mnemonic ∉ [.adc, .sbc, .bit] → t.cpu.flags.v = s.cpu.flags.v) ∧
    (i.mnemonic ∉ [.adc, .sbc, .cmp, .cpx, .cpy] → t.cpu.flags.c = s.cpu.flags.c) ∧
    ((∀ a, effectiveAddress i.operand s = some a →
        a ≠ 0x4016 ∧ ¬(0x2000 ≤ a.toNat ∧ a.toNat ≤ 0x3FFF ∧ (a.toNat % 8 = 2 ∨ a.toNat % 8 = 7))) →
      t.ppu = s.ppu ∧ t.ctl = s.ctl)

/-- The frame of the instructions that store: at the effective address the meaning stores to, for an address in RAM every other
byte of RAM and every other part of the machine is unchanged; for one elsewhere RAM is unchanged, and OAM, palette RAM
and the cartridge's memories only where a PPU address or the OAM DMA trigger reaches them; a form that stores nothing
changes no byte; and the registers and flags are unchanged but for those the spec names. -/
def Obligations.FrameOfStoringInstructions : Prop :=
  ∀ (i : Instr) (s t : State), i.mnemonic ∈ storers ++ modifiers → exec i s = .next t →
    t = { s with
      cpu := { s.cpu with a := t.cpu.a, flags := t.cpu.flags }
      ram := t.ram, ppu := t.ppu, ctl := t.ctl, cart := t.cart, scratch := t.scratch } ∧
    t.cart.prg = s.cart.prg ∧
    (i.mnemonic ∉ [.slo, .rla, .sre, .rra, .isb] → i.operand ≠ .acc → t.cpu.a = s.cpu.a) ∧
    (i.mnemonic ∈ storers → t.cpu.flags = s.cpu.flags) ∧
    t.cpu.flags.d = s.cpu.flags.d ∧ t.cpu.flags.i = s.cpu.flags.i ∧
    (i.mnemonic ∉ [.rra, .isb] → t.cpu.flags.v = s.cpu.flags.v) ∧
    (i.mnemonic ∈ [.inc, .dec] → t.cpu.flags.c = s.cpu.flags.c) ∧
    (effectiveAddress i.operand s = none → t.ram = s.ram ∧ t.ppu = s.ppu ∧ t.ctl = s.ctl ∧ t.cart = s.cart) ∧
    ∀ a, effectiveAddress i.operand s = some a →
      (∀ k, ¬(a.toNat ≤ 0x1FFF ∧ k = a.toNat % 0x800) → t.ram.read k = s.ram.read k) ∧
      (∀ b : Word, ¬(a.toNat ≤ 0x1FFF ∧ b.toNat ≤ 0x1FFF ∧ b.toNat % 0x800 = a.toNat % 0x800) → s.cfg.cart = .nrom →
        plainRead t b = plainRead s b) ∧
      (¬(0x2000 ≤ a.toNat ∧ a.toNat ≤ 0x3FFF) → a ≠ 0x4014 → t.ppu = s.ppu) ∧
      (¬(0x2000 ≤ a.toNat ∧ a.toNat ≤ 0x3FFF) → s.cfg.cart = .nrom → t.cart = s.cart) ∧
      (a ≠ 0x4016 → t.ctl = s.ctl) ∧
      (a ≠ 0x4014 → t.scratch.dmaStall = s.scratch.dmaStall ∧ ∀ k,
        ¬(0x2000 ≤ a.toNat ∧ a.toNat ≤ 0x3FFF ∧ a.toNat % 8 = 4 ∧ k = s.ppu.oamAddr.toNat) →
          t.ppu.oam.read k = s.ppu.oam.read k) ∧
      (a.toNat % 8 ≠ 7 → t.ppu.pal = s.ppu.pal ∧ (s.cfg.cart = .nrom → t.cart = s.cart))

/-- The frame of the instructions that use the stack: only the bytes at the stack addresses they push to change, none for one
that pulls; X, Y and every device are unchanged; A changes by PLA alone; S moves by the bytes pushed or pulled; the
flags change by PLA, PLP, RTI and, I alone, by BRK; and of the latches only `servicing`, by RTI. -/
def Obligations.FrameOfStackInstructions : Prop :=
  ∀ (i : Instr) (s t : State), i.mnemonic ∈ stackUsers → exec i s = .next t →
    t = { s with
      cpu := { s.cpu with
        a := t.cpu.a, sp := t.cpu.sp, pc := t.cpu.pc, flags := t.cpu.flags, servicing := t.cpu.servicing }
      ram := t.ram
      scratch := { s.scratch with crossed := false } } ∧
    (∀ k, (i.mnemonic ∈ [.pha, .php, .jsr, .brk] → k ≠ 0x100 + s.cpu.sp.toNat) →
      (i.mnemonic ∈ [.jsr, .brk] → k ≠ 0x100 + (s.cpu.sp - 1).toNat) →
      (i.mnemonic = .brk → k ≠ 0x100 + (s.cpu.sp - 2).toNat) → t.ram.read k = s.ram.read k) ∧
    (t.cpu.sp = s.cpu.sp + (match i.mnemonic with
      | .pha | .php => 0xFF
      | .jsr => 0xFE
      | .brk => 0xFD
      | .pla | .plp => 1
      | .rts => 2
      | _ => 3)) ∧
    (i.mnemonic ≠ .pla → t.cpu.a = s.cpu.a) ∧
    (i.mnemonic ∈ [.pha, .php, .pla, .plp] → t.cpu.pc = s.cpu.pc) ∧
    (i.mnemonic ∈ [.pha, .php, .jsr, .rts] → t.cpu.flags = s.cpu.flags) ∧
    (i.mnemonic = .brk → t.cpu.flags = { s.cpu.flags with i := true }) ∧
    (i.mnemonic = .pla → t.cpu.flags = { s.cpu.flags with n := t.cpu.flags.n, z := t.cpu.flags.z }) ∧
    (i.mnemonic ≠ .rti → t.cpu.servicing = s.cpu.servicing)

/-- D is inert: SED sets it, CLD clears it, PLP and RTI load it from bit 3 and `Pack` places it in bit 3; and every instruction
but those and the two that push the status does from a state with another D exactly what it does, with that other D
(R178). -/
def Obligations.DecimalFlagIsInert : Prop :=
  (∀ (i : Instr) (d : Bool) (s : State), i.mnemonic ∉ [.sed, .cld, .plp, .rti, .php, .brk] →
    exec i (withD d s) = outcomeWithD d (exec i s)) ∧
  (∀ s t : State, (exec .sed s = .next t → t.cpu.flags.d = true) ∧ (exec .cld s = .next t → t.cpu.flags.d = false) ∧
    ((exec .plp s = .next t ∨ exec .rti s = .next t) →
      t.cpu.flags.d = (s.ram.read (0x100 + (s.cpu.sp + 1).toNat)).getLsbD 3)) ∧
  (∀ (f : Flags) (b d : Bool), (f.pack b).getLsbD 3 = f.d ∧
    ∀ k, k ≠ 3 → (Flags.pack { f with d := d } b).getLsbD k = (f.pack b).getLsbD k)

/-- The power-on state, for every setting of the parameters, every image and every draw: a reset pending, no NMI, no handler, no
fault, the controller and the driver at zero, the image's bytes and the draws everywhere else (R30, R44, R45, R360);
and State.reset is that state with every draw zero and the empty image, the model's choice among them (log 2, log 9). -/
def Obligations.PowerOnState : Prop :=
  (∀ (cfg : Config) (image : Image) (init : Init) (s : State), s = State.powerOn cfg image init →
    s.cpu.resetPending = true ∧ s.cpu.nmiPending = false ∧ s.cpu.servicing = false ∧ s.fault = none ∧
    s.ctl = { buttons := 0, shift := 0, strobe := false } ∧ s.drv.acc = 0 ∧ s.drv.line = 0 ∧
    s.drv.phase = .startLine 0 ∧ s.cpuSteps = 0 ∧ s.host = [] ∧ s.cfg = cfg ∧
    s.cart.prg = image.prg ∧ s.cart.chr = image.chr ∧ s.cart.ciram = init.ciram ∧ s.ram = init.ram ∧ s.ppu = init.ppu ∧
    s.fb = init.fb ∧ s.cpu.a = init.a ∧ s.cpu.x = init.x ∧ s.cpu.y = init.y ∧ s.cpu.sp = init.sp ∧
    s.cpu.flags = init.flags) ∧
  State.reset = State.powerOn Config.default Image.empty Init.zero
end

