-- ==== Sys2Proof/Laws/Bits.lean ====
section
/-! SUPPORT. The arithmetic of a word and its two bytes (R9). -/

namespace Sys2Proof.Machine

theorem cat_toNat (h l : Byte) : (cat h l).toNat = h.toNat * 256 + l.toNat := by
  rw [show cat h l = h ++ l from rfl, BitVec.toNat_append, ← Nat.shiftLeft_add_eq_or_of_lt l.isLt, Nat.shiftLeft_eq]

theorem hiByte_toNat (w : Word) : (hiByte w).toNat = w.toNat / 256 := by
  have := w.isLt
  simp only [hiByte, BitVec.toNat_setWidth, BitVec.toNat_ushiftRight, Nat.shiftRight_eq_div_pow]
  omega

theorem loByte_toNat (w : Word) : (loByte w).toNat = w.toNat % 256 := by
  simp [loByte]

@[simp] theorem loByte_cat (h l : Byte) : loByte (cat h l) = l := by
  have := l.isLt
  apply BitVec.eq_of_toNat_eq
  rw [loByte_toNat, cat_toNat]
  omega

@[simp] theorem hiByte_cat (h l : Byte) : hiByte (cat h l) = h := by
  have := l.isLt
  apply BitVec.eq_of_toNat_eq
  rw [hiByte_toNat, cat_toNat]
  omega

@[simp] theorem cat_hi_lo (w : Word) : cat (hiByte w) (loByte w) = w := by
  apply BitVec.eq_of_toNat_eq
  rw [cat_toNat, hiByte_toNat, loByte_toNat]
  omega

theorem page_eq (p : Word) : p &&& 0xFF00#16 = cat (hiByte p) 0 := by
  have e : ∀ i : Fin 16, (0xFF00#16)[i] = decide (8 ≤ i.1) := by decide
  have e2 : p &&& 0xFF00#16 = (p >>> 8) <<< 8 := by
    ext i hi
    have := e ⟨i, hi⟩
    simp only [Fin.getElem_fin] at this
    rw [BitVec.getElem_and, this]
    by_cases h : 8 ≤ i
    · simp [h, Nat.not_lt.mpr h, BitVec.getLsbD_eq_getElem hi]
    · simp [h, Nat.lt_of_not_le h]
  apply BitVec.eq_of_toNat_eq
  have := p.isLt
  rw [e2, cat_toNat, hiByte_toNat]
  simp only [BitVec.toNat_shiftLeft, BitVec.toNat_ushiftRight, Nat.shiftRight_eq_div_pow, Nat.shiftLeft_eq]
  simp
  omega

/-- Equal pages are equal high bytes. -/
theorem page_ne_iff (p t : Word) : ((p &&& 0xFF00#16) != (t &&& 0xFF00#16)) = (hiByte p != hiByte t) := by
  rw [page_eq, page_eq]
  by_cases h : hiByte p = hiByte t
  · simp [h]
  · have : cat (hiByte p) 0 ≠ cat (hiByte t) 0 := fun h' => h (by simpa using congrArg hiByte h')
    rw [bne_iff_ne.mpr this, bne_iff_ne.mpr h]

theorem zext16_le (b : Byte) : (zext16 b).toNat ≤ 0xFF := by
  have := b.isLt
  simp only [zext16, BitVec.toNat_setWidth]
  omega

theorem zext16_succ_le (b : Byte) : (zext16 b + 1).toNat ≤ 0x1FFF := by
  have := zext16_le b
  have h1 : (1 : Word).toNat = 1 := rfl
  simp only [BitVec.toNat_add, h1]
  omega

end Sys2Proof.Machine
end

