-- ==== Sys2Proof/Laws/Memory.lean ====
section
/-! SUPPORT. The laws of byte memories: a write is read back, leaves every other byte alone, and keeps the canonical
form; and the form is canonical: memories that read alike are equal. -/

namespace Sys2Proof.Machine

@[simp] theorem Memory.read_nil (k : Nat) : Memory.read [] k = Memory.blank := rfl

theorem Memory.remove_cons (c : Host.Cell) (m : Memory) (k : Nat) :
    Memory.remove (c :: m) k = if c.1 = k then m.remove k else c :: m.remove k := by
  by_cases h : c.1 = k <;> simp [Memory.remove, h]

theorem Memory.read_remove (m : Memory) (k j : Nat) :
    (m.remove k).read j = if j = k then Memory.blank else m.read j := by
  induction m with
  | nil => simp [Memory.remove]
  | cons c m ih =>
    obtain ⟨i, b⟩ := c
    rw [Memory.remove_cons]
    by_cases hi : i = k
    · by_cases hj : j = k
      · simpa [hi, hj] using ih
      · simp [hi, hj, ih, Memory.read, Ne.symm hj]
    · by_cases hj : i = j
      · subst hj; simp [hi, Memory.read]
      · simp [hi, hj, ih, Memory.read]

theorem Memory.read_place (m : Memory) (k j : Nat) (b : Byte) (hk : ∀ c ∈ m, c.1 ≠ k) :
    (m.place k b).read j = if j = k then b else m.read j := by
  induction m with
  | nil => simp [Memory.place, Memory.read, eq_comm]
  | cons c m ih =>
    obtain ⟨i, d⟩ := c
    have hi : i ≠ k := hk (i, d) (by simp)
    have hm : ∀ c ∈ m, c.1 ≠ k := fun c hc => hk c (by simp [hc])
    simp only [Memory.place]
    split
    · simp [Memory.read, eq_comm]
    · by_cases hj : i = j
      · subst hj; simp [Memory.read, hi]
      · simp [Memory.read, hj, ih hm]

theorem Memory.mem_remove {m : Memory} {k : Nat} {c : Host.Cell} : c ∈ m.remove k ↔ c ∈ m ∧ c.1 ≠ k := by
  simp [Memory.remove]

theorem Memory.mem_place {m : Memory} {k : Nat} {b : Byte} {c : Host.Cell} :
    c ∈ m.place k b ↔ c = (k, b) ∨ c ∈ m := by
  induction m with
  | nil => simp [Memory.place]
  | cons d m ih =>
    obtain ⟨i, e⟩ := d
    simp only [Memory.place]
    split
    · simp
    · simp only [List.mem_cons, ih, or_left_comm]

/-- A write, read back. -/
theorem Memory.read_write (m : Memory) (k j : Nat) (b : Byte) :
    (m.write k b).read j = if j = k then b else m.read j := by
  simp only [Memory.write]
  split
  · rename_i hb
    rw [Memory.read_remove, hb]
  · rw [Memory.read_place (m.remove k) k j b fun c hc => (Memory.mem_remove.mp hc).2, Memory.read_remove]
    by_cases h : j = k <;> simp [h]

@[simp] theorem Memory.read_write_same (m : Memory) (k : Nat) (b : Byte) : (m.write k b).read k = b := by
  simp [Memory.read_write]

theorem Memory.read_write_other (m : Memory) {j k : Nat} (b : Byte) (h : j ≠ k) : (m.write k b).read j = m.read j := by
  simp [Memory.read_write, h]

theorem Memory.wf_remove {m : Memory} (h : m.wf) (k : Nat) : (m.remove k).wf :=
  ⟨h.1.filter _, fun c hc => h.2 c (Memory.mem_remove.mp hc).1⟩

theorem Memory.wf_place {m : Memory} {k : Nat} {b : Byte} (h : m.wf) (hk : ∀ c ∈ m, c.1 ≠ k) (hb : b ≠ Memory.blank) :
    (m.place k b).wf := by
  refine ⟨?_, fun c hc => ?_⟩
  · induction m with
    | nil => simp [Memory.place]
    | cons d m ih =>
      obtain ⟨i, e⟩ := d
      have hp := List.pairwise_cons.mp h.1
      have hi : i ≠ k := hk (i, e) (by simp)
      simp only [Memory.place]
      split
      · rename_i hlt
        refine List.pairwise_cons.mpr ⟨fun c hc => ?_, h.1⟩
        rcases List.mem_cons.mp hc with rfl | hc
        · exact hlt
        · exact Nat.lt_trans hlt (hp.1 c hc)
      · rename_i hge
        refine List.pairwise_cons.mpr ⟨fun c hc => ?_, ih ⟨hp.2, fun c hc => h.2 c (by simp [hc])⟩
          (fun c hc => hk c (by simp [hc]))⟩
        rcases Memory.mem_place.mp hc with rfl | hc
        · show i < k; omega
        · exact hp.1 c hc
  · rcases Memory.mem_place.mp hc with rfl | hc
    · exact hb
    · exact h.2 c hc

/-- A write keeps the canonical form. -/
theorem Memory.wf_write {m : Memory} (h : m.wf) (k : Nat) (b : Byte) : (m.write k b).wf := by
  simp only [Memory.write]
  split
  · exact Memory.wf_remove h k
  · rename_i hb
    exact Memory.wf_place (Memory.wf_remove h k) (fun c hc => (Memory.mem_remove.mp hc).2) hb

/-- The addresses a write leaves listed. -/
theorem Memory.mem_write {m : Memory} {k : Nat} {b : Byte} {c : Host.Cell} (h : c ∈ m.write k b) :
    c.1 = k ∨ c ∈ m := by
  simp only [Memory.write] at h
  split at h
  · exact .inr (Memory.mem_remove.mp h).1
  · rcases Memory.mem_place.mp h with rfl | h
    · exact .inl rfl
    · exact .inr (Memory.mem_remove.mp h).1

theorem Memory.below_write {m : Memory} {n k : Nat} (h : m.below n) (hk : k < n) (b : Byte) :
    (m.write k b).below n := by
  intro c hc
  rcases Memory.mem_write hc with h' | h'
  · omega
  · exact h c h'

theorem Memory.read_of_lt {m : Memory} {k : Nat} (h : ∀ c ∈ m, k < c.1) : m.read k = Memory.blank := by
  induction m with
  | nil => rfl
  | cons c m ih =>
    obtain ⟨i, b⟩ := c
    have hi : k < i := h (i, b) (by simp)
    simp [Memory.read, Nat.ne_of_gt hi, ih fun c hc => h c (by simp [hc])]

/-- The form is canonical: two memories in it that read alike are equal. -/
theorem Memory.ext_read {m n : Memory} (hm : m.wf) (hn : n.wf) (h : ∀ k, m.read k = n.read k) : m = n := by
  induction m generalizing n with
  | nil =>
    cases n with
    | nil => rfl
    | cons d n =>
      obtain ⟨j, b⟩ := d
      have := h j
      simp [Memory.read] at this
      exact absurd this.symm (hn.2 (j, b) (by simp))
  | cons c m ih =>
    obtain ⟨i, a⟩ := c
    have hmp := List.pairwise_cons.mp hm.1
    cases n with
    | nil =>
      have := h i
      simp [Memory.read] at this
      exact absurd this (hm.2 (i, a) (by simp))
    | cons d n =>
      obtain ⟨j, b⟩ := d
      have hnp := List.pairwise_cons.mp hn.1
      have hij : i = j := by
        rcases Nat.lt_trichotomy i j with hlt | heq | hgt
        · have hr : Memory.read ((j, b) :: n) i = Memory.blank := Memory.read_of_lt fun c hc => by
            rcases List.mem_cons.mp hc with rfl | hc
            · exact hlt
            · exact Nat.lt_trans hlt (hnp.1 c hc)
          have := h i
          rw [hr] at this
          simp [Memory.read] at this
          exact absurd this (hm.2 (i, a) (by simp))
        · exact heq
        · have hr : Memory.read ((i, a) :: m) j = Memory.blank := Memory.read_of_lt fun c hc => by
            rcases List.mem_cons.mp hc with rfl | hc
            · exact hgt
            · exact Nat.lt_trans hgt (hmp.1 c hc)
          have := h j
          rw [hr] at this
          simp [Memory.read] at this
          exact absurd this.symm (hn.2 (j, b) (by simp))
      subst hij
      have hab : a = b := by simpa [Memory.read] using h i
      subst hab
      congr 1
      refine ih ⟨hmp.2, fun c hc => hm.2 c (by simp [hc])⟩ ⟨hnp.2, fun c hc => hn.2 c (by simp [hc])⟩ fun k => ?_
      by_cases hk : i = k
      · subst hk
        rw [Memory.read_of_lt hmp.1, Memory.read_of_lt hnp.1]
      · simpa [Memory.read, hk] using h k

end Sys2Proof.Machine
end

