-- ==== Sys2Proof/Laws/Result.lean ====
section
/-! SUPPORT. Running one action after another: what it is on an answer and on a raise, and its inversion. -/

namespace Sys2Proof.Machine

variable {α β : Type}

@[simp] theorem Res.andThen_ok (a : α) (s : State) (f : α → State → Res β) : (Res.ok a s).andThen f = f a s := rfl

@[simp] theorem Res.andThen_raise (k : FaultKind) (s : State) (f : α → State → Res β) :
    (Res.raise k s : Res α).andThen f = .raise k s := rfl

theorem Res.andThen_eq_ok {r : Res α} {f : α → State → Res β} {b : β} {t : State} :
    r.andThen f = .ok b t ↔ ∃ a u, r = .ok a u ∧ f a u = .ok b t := by
  cases r <;> simp [and_assoc]

theorem Res.andThen_eq_raise {r : Res α} {f : α → State → Res β} {k : FaultKind} {t : State} :
    r.andThen f = .raise k t ↔ r = .raise k t ∨ ∃ a u, r = .ok a u ∧ f a u = .raise k t := by
  cases r <;> simp [and_assoc]

@[simp] theorem Res.toOutcome_ok (a : Unit) (s : State) : (Res.ok a s).toOutcome = .next s := rfl

@[simp] theorem Res.toOutcome_raise (k : FaultKind) (s : State) :
    (Res.raise k s : Res Unit).toOutcome = .fault (.fatal k (s.halt k)) := rfl

theorem Res.toOutcome_eq_next {r : Res Unit} {t : State} : r.toOutcome = .next t ↔ r = .ok () t := by
  cases r <;> simp [Res.toOutcome]

@[simp] theorem forEach_nil (f : α → State → Res Unit) (s : State) : forEach [] f s = .ok () s := rfl

@[simp] theorem forEach_cons (x : α) (xs : List α) (f : α → State → Res Unit) (s : State) :
    forEach (x :: xs) f s = (f x s).andThen fun _ t => forEach xs f t := rfl

/-- A relation that every action of a loop keeps and that composes is kept by the loop. -/
theorem forEach_rel {R : State → State → Prop} (hr : ∀ s, R s s) (ht : ∀ {s t u}, R s t → R t u → R s u)
    {f : α → State → Res Unit} (hf : ∀ x s t, f x s = .ok () t → R s t) {xs : List α} {s t : State}
    (h : forEach xs f s = .ok () t) : R s t := by
  induction xs generalizing s with
  | nil => cases h; exact hr _
  | cons x xs ih =>
    obtain ⟨_, u, h₁, h₂⟩ := Res.andThen_eq_ok.mp h
    exact ht (hf x _ u h₁) (ih h₂)

theorem forEach_append (xs ys : List α) (f : α → State → Res Unit) (s : State) :
    forEach (xs ++ ys) f s = (forEach xs f s).andThen fun _ t => forEach ys f t := by
  induction xs generalizing s with
  | nil => rfl
  | cons x xs ih =>
    simp only [List.cons_append, forEach_cons]
    cases f x s <;> simp [ih]

/-- A counted loop completes when each of its actions does, from the loop's invariant at its number to that at the next. -/
theorem forEach_range_inv {P : Nat → State → Prop} {f : Nat → State → Res Unit} {n : Nat}
    (hf : ∀ k < n, ∀ s, P k s → ∃ t, f k s = .ok () t ∧ P (k + 1) t) {s : State} (h : P 0 s) :
    ∃ t, forEach (List.range n) f s = .ok () t ∧ P n t := by
  induction n with
  | zero => exact ⟨s, rfl, h⟩
  | succ n ih =>
    obtain ⟨t, h₁, h₂⟩ := ih fun k hk => hf k (by omega)
    obtain ⟨u, h₃, h₄⟩ := hf n (by omega) t h₂
    exact ⟨u, by rw [List.range_succ, forEach_append, h₁, Res.andThen_ok, forEach_cons, h₃]; rfl, h₄⟩

/-- A counted loop ends at the first of its actions that raises. -/
theorem forEach_range_raise {f : Nat → State → Res Unit} {n k : Nat} {e : FaultKind} {s t u : State} (hk : k < n)
    (h : forEach (List.range k) f s = .ok () t) (hr : f k t = .raise e u) :
    forEach (List.range n) f s = .raise e u := by
  obtain ⟨m, rfl⟩ : ∃ m, n = k + (m + 1) := ⟨n - k - 1, by omega⟩
  rw [List.range_add, forEach_append, h, Res.andThen_ok, List.range_succ_eq_map, List.map_cons, forEach_cons]
  simp only [Nat.add_zero, hr, Res.andThen_raise]

end Sys2Proof.Machine
end

