-- ==== Sys2Proof/Laws/State.lean ====
section
/-! SUPPORT. What each named update of the state leaves in each field. -/

namespace Sys2Proof.Machine

@[simp] theorem State.setCpu_cpu (s : State) (v : Cpu) : (s.setCpu v).cpu = v := rfl
@[simp] theorem State.setCpu_scratch (s : State) (v : Cpu) : (s.setCpu v).scratch = s.scratch := rfl
@[simp] theorem State.setCpu_fault (s : State) (v : Cpu) : (s.setCpu v).fault = s.fault := rfl
@[simp] theorem State.setCpu_ram (s : State) (v : Cpu) : (s.setCpu v).ram = s.ram := rfl
@[simp] theorem State.setCpu_ppu (s : State) (v : Cpu) : (s.setCpu v).ppu = s.ppu := rfl
@[simp] theorem State.setCpu_fb (s : State) (v : Cpu) : (s.setCpu v).fb = s.fb := rfl
@[simp] theorem State.setCpu_ctl (s : State) (v : Cpu) : (s.setCpu v).ctl = s.ctl := rfl
@[simp] theorem State.setCpu_drv (s : State) (v : Cpu) : (s.setCpu v).drv = s.drv := rfl
@[simp] theorem State.setCpu_cart (s : State) (v : Cpu) : (s.setCpu v).cart = s.cart := rfl
@[simp] theorem State.setCpu_cpuSteps (s : State) (v : Cpu) : (s.setCpu v).cpuSteps = s.cpuSteps := rfl
@[simp] theorem State.setCpu_host (s : State) (v : Cpu) : (s.setCpu v).host = s.host := rfl
@[simp] theorem State.setCpu_cfg (s : State) (v : Cpu) : (s.setCpu v).cfg = s.cfg := rfl

@[simp] theorem State.setScratch_cpu (s : State) (v : Scratch) : (s.setScratch v).cpu = s.cpu := rfl
@[simp] theorem State.setScratch_scratch (s : State) (v : Scratch) : (s.setScratch v).scratch = v := rfl
@[simp] theorem State.setScratch_fault (s : State) (v : Scratch) : (s.setScratch v).fault = s.fault := rfl
@[simp] theorem State.setScratch_ram (s : State) (v : Scratch) : (s.setScratch v).ram = s.ram := rfl
@[simp] theorem State.setScratch_ppu (s : State) (v : Scratch) : (s.setScratch v).ppu = s.ppu := rfl
@[simp] theorem State.setScratch_fb (s : State) (v : Scratch) : (s.setScratch v).fb = s.fb := rfl
@[simp] theorem State.setScratch_ctl (s : State) (v : Scratch) : (s.setScratch v).ctl = s.ctl := rfl
@[simp] theorem State.setScratch_drv (s : State) (v : Scratch) : (s.setScratch v).drv = s.drv := rfl
@[simp] theorem State.setScratch_cart (s : State) (v : Scratch) : (s.setScratch v).cart = s.cart := rfl
@[simp] theorem State.setScratch_cpuSteps (s : State) (v : Scratch) : (s.setScratch v).cpuSteps = s.cpuSteps := rfl
@[simp] theorem State.setScratch_host (s : State) (v : Scratch) : (s.setScratch v).host = s.host := rfl
@[simp] theorem State.setScratch_cfg (s : State) (v : Scratch) : (s.setScratch v).cfg = s.cfg := rfl

@[simp] theorem State.setRam_cpu (s : State) (v : Memory) : (s.setRam v).cpu = s.cpu := rfl
@[simp] theorem State.setRam_scratch (s : State) (v : Memory) : (s.setRam v).scratch = s.scratch := rfl
@[simp] theorem State.setRam_fault (s : State) (v : Memory) : (s.setRam v).fault = s.fault := rfl
@[simp] theorem State.setRam_ram (s : State) (v : Memory) : (s.setRam v).ram = v := rfl
@[simp] theorem State.setRam_ppu (s : State) (v : Memory) : (s.setRam v).ppu = s.ppu := rfl
@[simp] theorem State.setRam_fb (s : State) (v : Memory) : (s.setRam v).fb = s.fb := rfl
@[simp] theorem State.setRam_ctl (s : State) (v : Memory) : (s.setRam v).ctl = s.ctl := rfl
@[simp] theorem State.setRam_drv (s : State) (v : Memory) : (s.setRam v).drv = s.drv := rfl
@[simp] theorem State.setRam_cart (s : State) (v : Memory) : (s.setRam v).cart = s.cart := rfl
@[simp] theorem State.setRam_cpuSteps (s : State) (v : Memory) : (s.setRam v).cpuSteps = s.cpuSteps := rfl
@[simp] theorem State.setRam_host (s : State) (v : Memory) : (s.setRam v).host = s.host := rfl
@[simp] theorem State.setRam_cfg (s : State) (v : Memory) : (s.setRam v).cfg = s.cfg := rfl

@[simp] theorem State.setPpu_cpu (s : State) (v : Ppu) : (s.setPpu v).cpu = s.cpu := rfl
@[simp] theorem State.setPpu_scratch (s : State) (v : Ppu) : (s.setPpu v).scratch = s.scratch := rfl
@[simp] theorem State.setPpu_fault (s : State) (v : Ppu) : (s.setPpu v).fault = s.fault := rfl
@[simp] theorem State.setPpu_ram (s : State) (v : Ppu) : (s.setPpu v).ram = s.ram := rfl
@[simp] theorem State.setPpu_ppu (s : State) (v : Ppu) : (s.setPpu v).ppu = v := rfl
@[simp] theorem State.setPpu_fb (s : State) (v : Ppu) : (s.setPpu v).fb = s.fb := rfl
@[simp] theorem State.setPpu_ctl (s : State) (v : Ppu) : (s.setPpu v).ctl = s.ctl := rfl
@[simp] theorem State.setPpu_drv (s : State) (v : Ppu) : (s.setPpu v).drv = s.drv := rfl
@[simp] theorem State.setPpu_cart (s : State) (v : Ppu) : (s.setPpu v).cart = s.cart := rfl
@[simp] theorem State.setPpu_cpuSteps (s : State) (v : Ppu) : (s.setPpu v).cpuSteps = s.cpuSteps := rfl
@[simp] theorem State.setPpu_host (s : State) (v : Ppu) : (s.setPpu v).host = s.host := rfl
@[simp] theorem State.setPpu_cfg (s : State) (v : Ppu) : (s.setPpu v).cfg = s.cfg := rfl

@[simp] theorem State.setFb_cpu (s : State) (v : PixelBuffer) : (s.setFb v).cpu = s.cpu := rfl
@[simp] theorem State.setFb_scratch (s : State) (v : PixelBuffer) : (s.setFb v).scratch = s.scratch := rfl
@[simp] theorem State.setFb_fault (s : State) (v : PixelBuffer) : (s.setFb v).fault = s.fault := rfl
@[simp] theorem State.setFb_ram (s : State) (v : PixelBuffer) : (s.setFb v).ram = s.ram := rfl
@[simp] theorem State.setFb_ppu (s : State) (v : PixelBuffer) : (s.setFb v).ppu = s.ppu := rfl
@[simp] theorem State.setFb_fb (s : State) (v : PixelBuffer) : (s.setFb v).fb = v := rfl
@[simp] theorem State.setFb_ctl (s : State) (v : PixelBuffer) : (s.setFb v).ctl = s.ctl := rfl
@[simp] theorem State.setFb_drv (s : State) (v : PixelBuffer) : (s.setFb v).drv = s.drv := rfl
@[simp] theorem State.setFb_cart (s : State) (v : PixelBuffer) : (s.setFb v).cart = s.cart := rfl
@[simp] theorem State.setFb_cpuSteps (s : State) (v : PixelBuffer) : (s.setFb v).cpuSteps = s.cpuSteps := rfl
@[simp] theorem State.setFb_host (s : State) (v : PixelBuffer) : (s.setFb v).host = s.host := rfl
@[simp] theorem State.setFb_cfg (s : State) (v : PixelBuffer) : (s.setFb v).cfg = s.cfg := rfl

@[simp] theorem State.setCtl_cpu (s : State) (v : Controller) : (s.setCtl v).cpu = s.cpu := rfl
@[simp] theorem State.setCtl_scratch (s : State) (v : Controller) : (s.setCtl v).scratch = s.scratch := rfl
@[simp] theorem State.setCtl_fault (s : State) (v : Controller) : (s.setCtl v).fault = s.fault := rfl
@[simp] theorem State.setCtl_ram (s : State) (v : Controller) : (s.setCtl v).ram = s.ram := rfl
@[simp] theorem State.setCtl_ppu (s : State) (v : Controller) : (s.setCtl v).ppu = s.ppu := rfl
@[simp] theorem State.setCtl_fb (s : State) (v : Controller) : (s.setCtl v).fb = s.fb := rfl
@[simp] theorem State.setCtl_ctl (s : State) (v : Controller) : (s.setCtl v).ctl = v := rfl
@[simp] theorem State.setCtl_drv (s : State) (v : Controller) : (s.setCtl v).drv = s.drv := rfl
@[simp] theorem State.setCtl_cart (s : State) (v : Controller) : (s.setCtl v).cart = s.cart := rfl
@[simp] theorem State.setCtl_cpuSteps (s : State) (v : Controller) : (s.setCtl v).cpuSteps = s.cpuSteps := rfl
@[simp] theorem State.setCtl_host (s : State) (v : Controller) : (s.setCtl v).host = s.host := rfl
@[simp] theorem State.setCtl_cfg (s : State) (v : Controller) : (s.setCtl v).cfg = s.cfg := rfl

@[simp] theorem State.setDrv_cpu (s : State) (v : Driver) : (s.setDrv v).cpu = s.cpu := rfl
@[simp] theorem State.setDrv_scratch (s : State) (v : Driver) : (s.setDrv v).scratch = s.scratch := rfl
@[simp] theorem State.setDrv_fault (s : State) (v : Driver) : (s.setDrv v).fault = s.fault := rfl
@[simp] theorem State.setDrv_ram (s : State) (v : Driver) : (s.setDrv v).ram = s.ram := rfl
@[simp] theorem State.setDrv_ppu (s : State) (v : Driver) : (s.setDrv v).ppu = s.ppu := rfl
@[simp] theorem State.setDrv_fb (s : State) (v : Driver) : (s.setDrv v).fb = s.fb := rfl
@[simp] theorem State.setDrv_ctl (s : State) (v : Driver) : (s.setDrv v).ctl = s.ctl := rfl
@[simp] theorem State.setDrv_drv (s : State) (v : Driver) : (s.setDrv v).drv = v := rfl
@[simp] theorem State.setDrv_cart (s : State) (v : Driver) : (s.setDrv v).cart = s.cart := rfl
@[simp] theorem State.setDrv_cpuSteps (s : State) (v : Driver) : (s.setDrv v).cpuSteps = s.cpuSteps := rfl
@[simp] theorem State.setDrv_host (s : State) (v : Driver) : (s.setDrv v).host = s.host := rfl
@[simp] theorem State.setDrv_cfg (s : State) (v : Driver) : (s.setDrv v).cfg = s.cfg := rfl

@[simp] theorem State.setCart_cpu (s : State) (v : Cart) : (s.setCart v).cpu = s.cpu := rfl
@[simp] theorem State.setCart_scratch (s : State) (v : Cart) : (s.setCart v).scratch = s.scratch := rfl
@[simp] theorem State.setCart_fault (s : State) (v : Cart) : (s.setCart v).fault = s.fault := rfl
@[simp] theorem State.setCart_ram (s : State) (v : Cart) : (s.setCart v).ram = s.ram := rfl
@[simp] theorem State.setCart_ppu (s : State) (v : Cart) : (s.setCart v).ppu = s.ppu := rfl
@[simp] theorem State.setCart_fb (s : State) (v : Cart) : (s.setCart v).fb = s.fb := rfl
@[simp] theorem State.setCart_ctl (s : State) (v : Cart) : (s.setCart v).ctl = s.ctl := rfl
@[simp] theorem State.setCart_drv (s : State) (v : Cart) : (s.setCart v).drv = s.drv := rfl
@[simp] theorem State.setCart_cart (s : State) (v : Cart) : (s.setCart v).cart = v := rfl
@[simp] theorem State.setCart_cpuSteps (s : State) (v : Cart) : (s.setCart v).cpuSteps = s.cpuSteps := rfl
@[simp] theorem State.setCart_host (s : State) (v : Cart) : (s.setCart v).host = s.host := rfl
@[simp] theorem State.setCart_cfg (s : State) (v : Cart) : (s.setCart v).cfg = s.cfg := rfl

@[simp] theorem State.setA_scratch (s : State) (v : Byte) : (s.setA v).scratch = s.scratch := rfl
@[simp] theorem State.setA_fault (s : State) (v : Byte) : (s.setA v).fault = s.fault := rfl
@[simp] theorem State.setA_ram (s : State) (v : Byte) : (s.setA v).ram = s.ram := rfl
@[simp] theorem State.setA_ppu (s : State) (v : Byte) : (s.setA v).ppu = s.ppu := rfl
@[simp] theorem State.setA_fb (s : State) (v : Byte) : (s.setA v).fb = s.fb := rfl
@[simp] theorem State.setA_ctl (s : State) (v : Byte) : (s.setA v).ctl = s.ctl := rfl
@[simp] theorem State.setA_drv (s : State) (v : Byte) : (s.setA v).drv = s.drv := rfl
@[simp] theorem State.setA_cart (s : State) (v : Byte) : (s.setA v).cart = s.cart := rfl
@[simp] theorem State.setA_cpuSteps (s : State) (v : Byte) : (s.setA v).cpuSteps = s.cpuSteps := rfl
@[simp] theorem State.setA_host (s : State) (v : Byte) : (s.setA v).host = s.host := rfl
@[simp] theorem State.setA_cfg (s : State) (v : Byte) : (s.setA v).cfg = s.cfg := rfl
@[simp] theorem State.setA_cpu_a (s : State) (v : Byte) : (s.setA v).cpu.a = v := rfl
@[simp] theorem State.setA_cpu_x (s : State) (v : Byte) : (s.setA v).cpu.x = s.cpu.x := rfl
@[simp] theorem State.setA_cpu_y (s : State) (v : Byte) : (s.setA v).cpu.y = s.cpu.y := rfl
@[simp] theorem State.setA_cpu_sp (s : State) (v : Byte) : (s.setA v).cpu.sp = s.cpu.sp := rfl
@[simp] theorem State.setA_cpu_pc (s : State) (v : Byte) : (s.setA v).cpu.pc = s.cpu.pc := rfl
@[simp] theorem State.setA_cpu_flags (s : State) (v : Byte) : (s.setA v).cpu.flags = s.cpu.flags := rfl
@[simp] theorem State.setA_cpu_resetPending (s : State) (v : Byte) : (s.setA v).cpu.resetPending = s.cpu.resetPending := rfl
@[simp] theorem State.setA_cpu_nmiPending (s : State) (v : Byte) : (s.setA v).cpu.nmiPending = s.cpu.nmiPending := rfl
@[simp] theorem State.setA_cpu_servicing (s : State) (v : Byte) : (s.setA v).cpu.servicing = s.cpu.servicing := rfl

@[simp] theorem State.setX_scratch (s : State) (v : Byte) : (s.setX v).scratch = s.scratch := rfl
@[simp] theorem State.setX_fault (s : State) (v : Byte) : (s.setX v).fault = s.fault := rfl
@[simp] theorem State.setX_ram (s : State) (v : Byte) : (s.setX v).ram = s.ram := rfl
@[simp] theorem State.setX_ppu (s : State) (v : Byte) : (s.setX v).ppu = s.ppu := rfl
@[simp] theorem State.setX_fb (s : State) (v : Byte) : (s.setX v).fb = s.fb := rfl
@[simp] theorem State.setX_ctl (s : State) (v : Byte) : (s.setX v).ctl = s.ctl := rfl
@[simp] theorem State.setX_drv (s : State) (v : Byte) : (s.setX v).drv = s.drv := rfl
@[simp] theorem State.setX_cart (s : State) (v : Byte) : (s.setX v).cart = s.cart := rfl
@[simp] theorem State.setX_cpuSteps (s : State) (v : Byte) : (s.setX v).cpuSteps = s.cpuSteps := rfl
@[simp] theorem State.setX_host (s : State) (v : Byte) : (s.setX v).host = s.host := rfl
@[simp] theorem State.setX_cfg (s : State) (v : Byte) : (s.setX v).cfg = s.cfg := rfl
@[simp] theorem State.setX_cpu_a (s : State) (v : Byte) : (s.setX v).cpu.a = s.cpu.a := rfl
@[simp] theorem State.setX_cpu_x (s : State) (v : Byte) : (s.setX v).cpu.x = v := rfl
@[simp] theorem State.setX_cpu_y (s : State) (v : Byte) : (s.setX v).cpu.y = s.cpu.y := rfl
@[simp] theorem State.setX_cpu_sp (s : State) (v : Byte) : (s.setX v).cpu.sp = s.cpu.sp := rfl
@[simp] theorem State.setX_cpu_pc (s : State) (v : Byte) : (s.setX v).cpu.pc = s.cpu.pc := rfl
@[simp] theorem State.setX_cpu_flags (s : State) (v : Byte) : (s.setX v).cpu.flags = s.cpu.flags := rfl
@[simp] theorem State.setX_cpu_resetPending (s : State) (v : Byte) : (s.setX v).cpu.resetPending = s.cpu.resetPending := rfl
@[simp] theorem State.setX_cpu_nmiPending (s : State) (v : Byte) : (s.setX v).cpu.nmiPending = s.cpu.nmiPending := rfl
@[simp] theorem State.setX_cpu_servicing (s : State) (v : Byte) : (s.setX v).cpu.servicing = s.cpu.servicing := rfl

@[simp] theorem State.setY_scratch (s : State) (v : Byte) : (s.setY v).scratch = s.scratch := rfl
@[simp] theorem State.setY_fault (s : State) (v : Byte) : (s.setY v).fault = s.fault := rfl
@[simp] theorem State.setY_ram (s : State) (v : Byte) : (s.setY v).ram = s.ram := rfl
@[simp] theorem State.setY_ppu (s : State) (v : Byte) : (s.setY v).ppu = s.ppu := rfl
@[simp] theorem State.setY_fb (s : State) (v : Byte) : (s.setY v).fb = s.fb := rfl
@[simp] theorem State.setY_ctl (s : State) (v : Byte) : (s.setY v).ctl = s.ctl := rfl
@[simp] theorem State.setY_drv (s : State) (v : Byte) : (s.setY v).drv = s.drv := rfl
@[simp] theorem State.setY_cart (s : State) (v : Byte) : (s.setY v).cart = s.cart := rfl
@[simp] theorem State.setY_cpuSteps (s : State) (v : Byte) : (s.setY v).cpuSteps = s.cpuSteps := rfl
@[simp] theorem State.setY_host (s : State) (v : Byte) : (s.setY v).host = s.host := rfl
@[simp] theorem State.setY_cfg (s : State) (v : Byte) : (s.setY v).cfg = s.cfg := rfl
@[simp] theorem State.setY_cpu_a (s : State) (v : Byte) : (s.setY v).cpu.a = s.cpu.a := rfl
@[simp] theorem State.setY_cpu_x (s : State) (v : Byte) : (s.setY v).cpu.x = s.cpu.x := rfl
@[simp] theorem State.setY_cpu_y (s : State) (v : Byte) : (s.setY v).cpu.y = v := rfl
@[simp] theorem State.setY_cpu_sp (s : State) (v : Byte) : (s.setY v).cpu.sp = s.cpu.sp := rfl
@[simp] theorem State.setY_cpu_pc (s : State) (v : Byte) : (s.setY v).cpu.pc = s.cpu.pc := rfl
@[simp] theorem State.setY_cpu_flags (s : State) (v : Byte) : (s.setY v).cpu.flags = s.cpu.flags := rfl
@[simp] theorem State.setY_cpu_resetPending (s : State) (v : Byte) : (s.setY v).cpu.resetPending = s.cpu.resetPending := rfl
@[simp] theorem State.setY_cpu_nmiPending (s : State) (v : Byte) : (s.setY v).cpu.nmiPending = s.cpu.nmiPending := rfl
@[simp] theorem State.setY_cpu_servicing (s : State) (v : Byte) : (s.setY v).cpu.servicing = s.cpu.servicing := rfl

@[simp] theorem State.setSp_scratch (s : State) (v : Byte) : (s.setSp v).scratch = s.scratch := rfl
@[simp] theorem State.setSp_fault (s : State) (v : Byte) : (s.setSp v).fault = s.fault := rfl
@[simp] theorem State.setSp_ram (s : State) (v : Byte) : (s.setSp v).ram = s.ram := rfl
@[simp] theorem State.setSp_ppu (s : State) (v : Byte) : (s.setSp v).ppu = s.ppu := rfl
@[simp] theorem State.setSp_fb (s : State) (v : Byte) : (s.setSp v).fb = s.fb := rfl
@[simp] theorem State.setSp_ctl (s : State) (v : Byte) : (s.setSp v).ctl = s.ctl := rfl
@[simp] theorem State.setSp_drv (s : State) (v : Byte) : (s.setSp v).drv = s.drv := rfl
@[simp] theorem State.setSp_cart (s : State) (v : Byte) : (s.setSp v).cart = s.cart := rfl
@[simp] theorem State.setSp_cpuSteps (s : State) (v : Byte) : (s.setSp v).cpuSteps = s.cpuSteps := rfl
@[simp] theorem State.setSp_host (s : State) (v : Byte) : (s.setSp v).host = s.host := rfl
@[simp] theorem State.setSp_cfg (s : State) (v : Byte) : (s.setSp v).cfg = s.cfg := rfl
@[simp] theorem State.setSp_cpu_a (s : State) (v : Byte) : (s.setSp v).cpu.a = s.cpu.a := rfl
@[simp] theorem State.setSp_cpu_x (s : State) (v : Byte) : (s.setSp v).cpu.x = s.cpu.x := rfl
@[simp] theorem State.setSp_cpu_y (s : State) (v : Byte) : (s.setSp v).cpu.y = s.cpu.y := rfl
@[simp] theorem State.setSp_cpu_sp (s : State) (v : Byte) : (s.setSp v).cpu.sp = v := rfl
@[simp] theorem State.setSp_cpu_pc (s : State) (v : Byte) : (s.setSp v).cpu.pc = s.cpu.pc := rfl
@[simp] theorem State.setSp_cpu_flags (s : State) (v : Byte) : (s.setSp v).cpu.flags = s.cpu.flags := rfl
@[simp] theorem State.setSp_cpu_resetPending (s : State) (v : Byte) : (s.setSp v).cpu.resetPending = s.cpu.resetPending := rfl
@[simp] theorem State.setSp_cpu_nmiPending (s : State) (v : Byte) : (s.setSp v).cpu.nmiPending = s.cpu.nmiPending := rfl
@[simp] theorem State.setSp_cpu_servicing (s : State) (v : Byte) : (s.setSp v).cpu.servicing = s.cpu.servicing := rfl

@[simp] theorem State.setPc_scratch (s : State) (v : Word) : (s.setPc v).scratch = s.scratch := rfl
@[simp] theorem State.setPc_fault (s : State) (v : Word) : (s.setPc v).fault = s.fault := rfl
@[simp] theorem State.setPc_ram (s : State) (v : Word) : (s.setPc v).ram = s.ram := rfl
@[simp] theorem State.setPc_ppu (s : State) (v : Word) : (s.setPc v).ppu = s.ppu := rfl
@[simp] theorem State.setPc_fb (s : State) (v : Word) : (s.setPc v).fb = s.fb := rfl
@[simp] theorem State.setPc_ctl (s : State) (v : Word) : (s.setPc v).ctl = s.ctl := rfl
@[simp] theorem State.setPc_drv (s : State) (v : Word) : (s.setPc v).drv = s.drv := rfl
@[simp] theorem State.setPc_cart (s : State) (v : Word) : (s.setPc v).cart = s.cart := rfl
@[simp] theorem State.setPc_cpuSteps (s : State) (v : Word) : (s.setPc v).cpuSteps = s.cpuSteps := rfl
@[simp] theorem State.setPc_host (s : State) (v : Word) : (s.setPc v).host = s.host := rfl
@[simp] theorem State.setPc_cfg (s : State) (v : Word) : (s.setPc v).cfg = s.cfg := rfl
@[simp] theorem State.setPc_cpu_a (s : State) (v : Word) : (s.setPc v).cpu.a = s.cpu.a := rfl
@[simp] theorem State.setPc_cpu_x (s : State) (v : Word) : (s.setPc v).cpu.x = s.cpu.x := rfl
@[simp] theorem State.setPc_cpu_y (s : State) (v : Word) : (s.setPc v).cpu.y = s.cpu.y := rfl
@[simp] theorem State.setPc_cpu_sp (s : State) (v : Word) : (s.setPc v).cpu.sp = s.cpu.sp := rfl
@[simp] theorem State.setPc_cpu_pc (s : State) (v : Word) : (s.setPc v).cpu.pc = v := rfl
@[simp] theorem State.setPc_cpu_flags (s : State) (v : Word) : (s.setPc v).cpu.flags = s.cpu.flags := rfl
@[simp] theorem State.setPc_cpu_resetPending (s : State) (v : Word) : (s.setPc v).cpu.resetPending = s.cpu.resetPending := rfl
@[simp] theorem State.setPc_cpu_nmiPending (s : State) (v : Word) : (s.setPc v).cpu.nmiPending = s.cpu.nmiPending := rfl
@[simp] theorem State.setPc_cpu_servicing (s : State) (v : Word) : (s.setPc v).cpu.servicing = s.cpu.servicing := rfl

@[simp] theorem State.setFlags_scratch (s : State) (v : Flags) : (s.setFlags v).scratch = s.scratch := rfl
@[simp] theorem State.setFlags_fault (s : State) (v : Flags) : (s.setFlags v).fault = s.fault := rfl
@[simp] theorem State.setFlags_ram (s : State) (v : Flags) : (s.setFlags v).ram = s.ram := rfl
@[simp] theorem State.setFlags_ppu (s : State) (v : Flags) : (s.setFlags v).ppu = s.ppu := rfl
@[simp] theorem State.setFlags_fb (s : State) (v : Flags) : (s.setFlags v).fb = s.fb := rfl
@[simp] theorem State.setFlags_ctl (s : State) (v : Flags) : (s.setFlags v).ctl = s.ctl := rfl
@[simp] theorem State.setFlags_drv (s : State) (v : Flags) : (s.setFlags v).drv = s.drv := rfl
@[simp] theorem State.setFlags_cart (s : State) (v : Flags) : (s.setFlags v).cart = s.cart := rfl
@[simp] theorem State.setFlags_cpuSteps (s : State) (v : Flags) : (s.setFlags v).cpuSteps = s.cpuSteps := rfl
@[simp] theorem State.setFlags_host (s : State) (v : Flags) : (s.setFlags v).host = s.host := rfl
@[simp] theorem State.setFlags_cfg (s : State) (v : Flags) : (s.setFlags v).cfg = s.cfg := rfl
@[simp] theorem State.setFlags_cpu_a (s : State) (v : Flags) : (s.setFlags v).cpu.a = s.cpu.a := rfl
@[simp] theorem State.setFlags_cpu_x (s : State) (v : Flags) : (s.setFlags v).cpu.x = s.cpu.x := rfl
@[simp] theorem State.setFlags_cpu_y (s : State) (v : Flags) : (s.setFlags v).cpu.y = s.cpu.y := rfl
@[simp] theorem State.setFlags_cpu_sp (s : State) (v : Flags) : (s.setFlags v).cpu.sp = s.cpu.sp := rfl
@[simp] theorem State.setFlags_cpu_pc (s : State) (v : Flags) : (s.setFlags v).cpu.pc = s.cpu.pc := rfl
@[simp] theorem State.setFlags_cpu_flags (s : State) (v : Flags) : (s.setFlags v).cpu.flags = v := rfl
@[simp] theorem State.setFlags_cpu_resetPending (s : State) (v : Flags) : (s.setFlags v).cpu.resetPending = s.cpu.resetPending := rfl
@[simp] theorem State.setFlags_cpu_nmiPending (s : State) (v : Flags) : (s.setFlags v).cpu.nmiPending = s.cpu.nmiPending := rfl
@[simp] theorem State.setFlags_cpu_servicing (s : State) (v : Flags) : (s.setFlags v).cpu.servicing = s.cpu.servicing := rfl

@[simp] theorem State.setResetPending_scratch (s : State) (v : Bool) : (s.setResetPending v).scratch = s.scratch := rfl
@[simp] theorem State.setResetPending_fault (s : State) (v : Bool) : (s.setResetPending v).fault = s.fault := rfl
@[simp] theorem State.setResetPending_ram (s : State) (v : Bool) : (s.setResetPending v).ram = s.ram := rfl
@[simp] theorem State.setResetPending_ppu (s : State) (v : Bool) : (s.setResetPending v).ppu = s.ppu := rfl
@[simp] theorem State.setResetPending_fb (s : State) (v : Bool) : (s.setResetPending v).fb = s.fb := rfl
@[simp] theorem State.setResetPending_ctl (s : State) (v : Bool) : (s.setResetPending v).ctl = s.ctl := rfl
@[simp] theorem State.setResetPending_drv (s : State) (v : Bool) : (s.setResetPending v).drv = s.drv := rfl
@[simp] theorem State.setResetPending_cart (s : State) (v : Bool) : (s.setResetPending v).cart = s.cart := rfl
@[simp] theorem State.setResetPending_cpuSteps (s : State) (v : Bool) : (s.setResetPending v).cpuSteps = s.cpuSteps := rfl
@[simp] theorem State.setResetPending_host (s : State) (v : Bool) : (s.setResetPending v).host = s.host := rfl
@[simp] theorem State.setResetPending_cfg (s : State) (v : Bool) : (s.setResetPending v).cfg = s.cfg := rfl
@[simp] theorem State.setResetPending_cpu_a (s : State) (v : Bool) : (s.setResetPending v).cpu.a = s.cpu.a := rfl
@[simp] theorem State.setResetPending_cpu_x (s : State) (v : Bool) : (s.setResetPending v).cpu.x = s.cpu.x := rfl
@[simp] theorem State.setResetPending_cpu_y (s : State) (v : Bool) : (s.setResetPending v).cpu.y = s.cpu.y := rfl
@[simp] theorem State.setResetPending_cpu_sp (s : State) (v : Bool) : (s.setResetPending v).cpu.sp = s.cpu.sp := rfl
@[simp] theorem State.setResetPending_cpu_pc (s : State) (v : Bool) : (s.setResetPending v).cpu.pc = s.cpu.pc := rfl
@[simp] theorem State.setResetPending_cpu_flags (s : State) (v : Bool) : (s.setResetPending v).cpu.flags = s.cpu.flags := rfl
@[simp] theorem State.setResetPending_cpu_resetPending (s : State) (v : Bool) : (s.setResetPending v).cpu.resetPending = v := rfl
@[simp] theorem State.setResetPending_cpu_nmiPending (s : State) (v : Bool) : (s.setResetPending v).cpu.nmiPending = s.cpu.nmiPending := rfl
@[simp] theorem State.setResetPending_cpu_servicing (s : State) (v : Bool) : (s.setResetPending v).cpu.servicing = s.cpu.servicing := rfl

@[simp] theorem State.setNmiPending_scratch (s : State) (v : Bool) : (s.setNmiPending v).scratch = s.scratch := rfl
@[simp] theorem State.setNmiPending_fault (s : State) (v : Bool) : (s.setNmiPending v).fault = s.fault := rfl
@[simp] theorem State.setNmiPending_ram (s : State) (v : Bool) : (s.setNmiPending v).ram = s.ram := rfl
@[simp] theorem State.setNmiPending_ppu (s : State) (v : Bool) : (s.setNmiPending v).ppu = s.ppu := rfl
@[simp] theorem State.setNmiPending_fb (s : State) (v : Bool) : (s.setNmiPending v).fb = s.fb := rfl
@[simp] theorem State.setNmiPending_ctl (s : State) (v : Bool) : (s.setNmiPending v).ctl = s.ctl := rfl
@[simp] theorem State.setNmiPending_drv (s : State) (v : Bool) : (s.setNmiPending v).drv = s.drv := rfl
@[simp] theorem State.setNmiPending_cart (s : State) (v : Bool) : (s.setNmiPending v).cart = s.cart := rfl
@[simp] theorem State.setNmiPending_cpuSteps (s : State) (v : Bool) : (s.setNmiPending v).cpuSteps = s.cpuSteps := rfl
@[simp] theorem State.setNmiPending_host (s : State) (v : Bool) : (s.setNmiPending v).host = s.host := rfl
@[simp] theorem State.setNmiPending_cfg (s : State) (v : Bool) : (s.setNmiPending v).cfg = s.cfg := rfl
@[simp] theorem State.setNmiPending_cpu_a (s : State) (v : Bool) : (s.setNmiPending v).cpu.a = s.cpu.a := rfl
@[simp] theorem State.setNmiPending_cpu_x (s : State) (v : Bool) : (s.setNmiPending v).cpu.x = s.cpu.x := rfl
@[simp] theorem State.setNmiPending_cpu_y (s : State) (v : Bool) : (s.setNmiPending v).cpu.y = s.cpu.y := rfl
@[simp] theorem State.setNmiPending_cpu_sp (s : State) (v : Bool) : (s.setNmiPending v).cpu.sp = s.cpu.sp := rfl
@[simp] theorem State.setNmiPending_cpu_pc (s : State) (v : Bool) : (s.setNmiPending v).cpu.pc = s.cpu.pc := rfl
@[simp] theorem State.setNmiPending_cpu_flags (s : State) (v : Bool) : (s.setNmiPending v).cpu.flags = s.cpu.flags := rfl
@[simp] theorem State.setNmiPending_cpu_resetPending (s : State) (v : Bool) : (s.setNmiPending v).cpu.resetPending = s.cpu.resetPending := rfl
@[simp] theorem State.setNmiPending_cpu_nmiPending (s : State) (v : Bool) : (s.setNmiPending v).cpu.nmiPending = v := rfl
@[simp] theorem State.setNmiPending_cpu_servicing (s : State) (v : Bool) : (s.setNmiPending v).cpu.servicing = s.cpu.servicing := rfl

@[simp] theorem State.setServicing_scratch (s : State) (v : Bool) : (s.setServicing v).scratch = s.scratch := rfl
@[simp] theorem State.setServicing_fault (s : State) (v : Bool) : (s.setServicing v).fault = s.fault := rfl
@[simp] theorem State.setServicing_ram (s : State) (v : Bool) : (s.setServicing v).ram = s.ram := rfl
@[simp] theorem State.setServicing_ppu (s : State) (v : Bool) : (s.setServicing v).ppu = s.ppu := rfl
@[simp] theorem State.setServicing_fb (s : State) (v : Bool) : (s.setServicing v).fb = s.fb := rfl
@[simp] theorem State.setServicing_ctl (s : State) (v : Bool) : (s.setServicing v).ctl = s.ctl := rfl
@[simp] theorem State.setServicing_drv (s : State) (v : Bool) : (s.setServicing v).drv = s.drv := rfl
@[simp] theorem State.setServicing_cart (s : State) (v : Bool) : (s.setServicing v).cart = s.cart := rfl
@[simp] theorem State.setServicing_cpuSteps (s : State) (v : Bool) : (s.setServicing v).cpuSteps = s.cpuSteps := rfl
@[simp] theorem State.setServicing_host (s : State) (v : Bool) : (s.setServicing v).host = s.host := rfl
@[simp] theorem State.setServicing_cfg (s : State) (v : Bool) : (s.setServicing v).cfg = s.cfg := rfl
@[simp] theorem State.setServicing_cpu_a (s : State) (v : Bool) : (s.setServicing v).cpu.a = s.cpu.a := rfl
@[simp] theorem State.setServicing_cpu_x (s : State) (v : Bool) : (s.setServicing v).cpu.x = s.cpu.x := rfl
@[simp] theorem State.setServicing_cpu_y (s : State) (v : Bool) : (s.setServicing v).cpu.y = s.cpu.y := rfl
@[simp] theorem State.setServicing_cpu_sp (s : State) (v : Bool) : (s.setServicing v).cpu.sp = s.cpu.sp := rfl
@[simp] theorem State.setServicing_cpu_pc (s : State) (v : Bool) : (s.setServicing v).cpu.pc = s.cpu.pc := rfl
@[simp] theorem State.setServicing_cpu_flags (s : State) (v : Bool) : (s.setServicing v).cpu.flags = s.cpu.flags := rfl
@[simp] theorem State.setServicing_cpu_resetPending (s : State) (v : Bool) : (s.setServicing v).cpu.resetPending = s.cpu.resetPending := rfl
@[simp] theorem State.setServicing_cpu_nmiPending (s : State) (v : Bool) : (s.setServicing v).cpu.nmiPending = s.cpu.nmiPending := rfl
@[simp] theorem State.setServicing_cpu_servicing (s : State) (v : Bool) : (s.setServicing v).cpu.servicing = v := rfl

@[simp] theorem State.setCrossed_cpu (s : State) (v : Bool) : (s.setCrossed v).cpu = s.cpu := rfl
@[simp] theorem State.setCrossed_fault (s : State) (v : Bool) : (s.setCrossed v).fault = s.fault := rfl
@[simp] theorem State.setCrossed_ram (s : State) (v : Bool) : (s.setCrossed v).ram = s.ram := rfl
@[simp] theorem State.setCrossed_ppu (s : State) (v : Bool) : (s.setCrossed v).ppu = s.ppu := rfl
@[simp] theorem State.setCrossed_fb (s : State) (v : Bool) : (s.setCrossed v).fb = s.fb := rfl
@[simp] theorem State.setCrossed_ctl (s : State) (v : Bool) : (s.setCrossed v).ctl = s.ctl := rfl
@[simp] theorem State.setCrossed_drv (s : State) (v : Bool) : (s.setCrossed v).drv = s.drv := rfl
@[simp] theorem State.setCrossed_cart (s : State) (v : Bool) : (s.setCrossed v).cart = s.cart := rfl
@[simp] theorem State.setCrossed_cpuSteps (s : State) (v : Bool) : (s.setCrossed v).cpuSteps = s.cpuSteps := rfl
@[simp] theorem State.setCrossed_host (s : State) (v : Bool) : (s.setCrossed v).host = s.host := rfl
@[simp] theorem State.setCrossed_cfg (s : State) (v : Bool) : (s.setCrossed v).cfg = s.cfg := rfl
@[simp] theorem State.setCrossed_scratch_crossed (s : State) (v : Bool) : (s.setCrossed v).scratch.crossed = v := rfl
@[simp] theorem State.setCrossed_scratch_taken (s : State) (v : Bool) : (s.setCrossed v).scratch.taken = s.scratch.taken := rfl
@[simp] theorem State.setCrossed_scratch_dmaStall (s : State) (v : Bool) : (s.setCrossed v).scratch.dmaStall = s.scratch.dmaStall := rfl

@[simp] theorem State.setTaken_cpu (s : State) (v : Bool) : (s.setTaken v).cpu = s.cpu := rfl
@[simp] theorem State.setTaken_fault (s : State) (v : Bool) : (s.setTaken v).fault = s.fault := rfl
@[simp] theorem State.setTaken_ram (s : State) (v : Bool) : (s.setTaken v).ram = s.ram := rfl
@[simp] theorem State.setTaken_ppu (s : State) (v : Bool) : (s.setTaken v).ppu = s.ppu := rfl
@[simp] theorem State.setTaken_fb (s : State) (v : Bool) : (s.setTaken v).fb = s.fb := rfl
@[simp] theorem State.setTaken_ctl (s : State) (v : Bool) : (s.setTaken v).ctl = s.ctl := rfl
@[simp] theorem State.setTaken_drv (s : State) (v : Bool) : (s.setTaken v).drv = s.drv := rfl
@[simp] theorem State.setTaken_cart (s : State) (v : Bool) : (s.setTaken v).cart = s.cart := rfl
@[simp] theorem State.setTaken_cpuSteps (s : State) (v : Bool) : (s.setTaken v).cpuSteps = s.cpuSteps := rfl
@[simp] theorem State.setTaken_host (s : State) (v : Bool) : (s.setTaken v).host = s.host := rfl
@[simp] theorem State.setTaken_cfg (s : State) (v : Bool) : (s.setTaken v).cfg = s.cfg := rfl
@[simp] theorem State.setTaken_scratch_crossed (s : State) (v : Bool) : (s.setTaken v).scratch.crossed = s.scratch.crossed := rfl
@[simp] theorem State.setTaken_scratch_taken (s : State) (v : Bool) : (s.setTaken v).scratch.taken = v := rfl
@[simp] theorem State.setTaken_scratch_dmaStall (s : State) (v : Bool) : (s.setTaken v).scratch.dmaStall = s.scratch.dmaStall := rfl

@[simp] theorem State.setDmaStall_cpu (s : State) (v : Nat) : (s.setDmaStall v).cpu = s.cpu := rfl
@[simp] theorem State.setDmaStall_fault (s : State) (v : Nat) : (s.setDmaStall v).fault = s.fault := rfl
@[simp] theorem State.setDmaStall_ram (s : State) (v : Nat) : (s.setDmaStall v).ram = s.ram := rfl
@[simp] theorem State.setDmaStall_ppu (s : State) (v : Nat) : (s.setDmaStall v).ppu = s.ppu := rfl
@[simp] theorem State.setDmaStall_fb (s : State) (v : Nat) : (s.setDmaStall v).fb = s.fb := rfl
@[simp] theorem State.setDmaStall_ctl (s : State) (v : Nat) : (s.setDmaStall v).ctl = s.ctl := rfl
@[simp] theorem State.setDmaStall_drv (s : State) (v : Nat) : (s.setDmaStall v).drv = s.drv := rfl
@[simp] theorem State.setDmaStall_cart (s : State) (v : Nat) : (s.setDmaStall v).cart = s.cart := rfl
@[simp] theorem State.setDmaStall_cpuSteps (s : State) (v : Nat) : (s.setDmaStall v).cpuSteps = s.cpuSteps := rfl
@[simp] theorem State.setDmaStall_host (s : State) (v : Nat) : (s.setDmaStall v).host = s.host := rfl
@[simp] theorem State.setDmaStall_cfg (s : State) (v : Nat) : (s.setDmaStall v).cfg = s.cfg := rfl
@[simp] theorem State.setDmaStall_scratch_crossed (s : State) (v : Nat) : (s.setDmaStall v).scratch.crossed = s.scratch.crossed := rfl
@[simp] theorem State.setDmaStall_scratch_taken (s : State) (v : Nat) : (s.setDmaStall v).scratch.taken = s.scratch.taken := rfl
@[simp] theorem State.setDmaStall_scratch_dmaStall (s : State) (v : Nat) : (s.setDmaStall v).scratch.dmaStall = v := rfl

@[simp] theorem State.setNZ_scratch (s : State) (r : Byte) : (s.setNZ r).scratch = s.scratch := rfl
@[simp] theorem State.setNZ_fault (s : State) (r : Byte) : (s.setNZ r).fault = s.fault := rfl
@[simp] theorem State.setNZ_ram (s : State) (r : Byte) : (s.setNZ r).ram = s.ram := rfl
@[simp] theorem State.setNZ_ppu (s : State) (r : Byte) : (s.setNZ r).ppu = s.ppu := rfl
@[simp] theorem State.setNZ_fb (s : State) (r : Byte) : (s.setNZ r).fb = s.fb := rfl
@[simp] theorem State.setNZ_ctl (s : State) (r : Byte) : (s.setNZ r).ctl = s.ctl := rfl
@[simp] theorem State.setNZ_drv (s : State) (r : Byte) : (s.setNZ r).drv = s.drv := rfl
@[simp] theorem State.setNZ_cart (s : State) (r : Byte) : (s.setNZ r).cart = s.cart := rfl
@[simp] theorem State.setNZ_cpuSteps (s : State) (r : Byte) : (s.setNZ r).cpuSteps = s.cpuSteps := rfl
@[simp] theorem State.setNZ_host (s : State) (r : Byte) : (s.setNZ r).host = s.host := rfl
@[simp] theorem State.setNZ_cfg (s : State) (r : Byte) : (s.setNZ r).cfg = s.cfg := rfl
@[simp] theorem State.setNZ_cpu_a (s : State) (r : Byte) : (s.setNZ r).cpu.a = s.cpu.a := rfl
@[simp] theorem State.setNZ_cpu_x (s : State) (r : Byte) : (s.setNZ r).cpu.x = s.cpu.x := rfl
@[simp] theorem State.setNZ_cpu_y (s : State) (r : Byte) : (s.setNZ r).cpu.y = s.cpu.y := rfl
@[simp] theorem State.setNZ_cpu_sp (s : State) (r : Byte) : (s.setNZ r).cpu.sp = s.cpu.sp := rfl
@[simp] theorem State.setNZ_cpu_pc (s : State) (r : Byte) : (s.setNZ r).cpu.pc = s.cpu.pc := rfl
@[simp] theorem State.setNZ_cpu_flags (s : State) (r : Byte) : (s.setNZ r).cpu.flags = s.cpu.flags.nz r := rfl
@[simp] theorem State.setNZ_cpu_resetPending (s : State) (r : Byte) : (s.setNZ r).cpu.resetPending = s.cpu.resetPending := rfl
@[simp] theorem State.setNZ_cpu_nmiPending (s : State) (r : Byte) : (s.setNZ r).cpu.nmiPending = s.cpu.nmiPending := rfl
@[simp] theorem State.setNZ_cpu_servicing (s : State) (r : Byte) : (s.setNZ r).cpu.servicing = s.cpu.servicing := rfl

@[simp] theorem State.setC_scratch (s : State) (c : Bool) : (s.setC c).scratch = s.scratch := rfl
@[simp] theorem State.setC_fault (s : State) (c : Bool) : (s.setC c).fault = s.fault := rfl
@[simp] theorem State.setC_ram (s : State) (c : Bool) : (s.setC c).ram = s.ram := rfl
@[simp] theorem State.setC_ppu (s : State) (c : Bool) : (s.setC c).ppu = s.ppu := rfl
@[simp] theorem State.setC_fb (s : State) (c : Bool) : (s.setC c).fb = s.fb := rfl
@[simp] theorem State.setC_ctl (s : State) (c : Bool) : (s.setC c).ctl = s.ctl := rfl
@[simp] theorem State.setC_drv (s : State) (c : Bool) : (s.setC c).drv = s.drv := rfl
@[simp] theorem State.setC_cart (s : State) (c : Bool) : (s.setC c).cart = s.cart := rfl
@[simp] theorem State.setC_cpuSteps (s : State) (c : Bool) : (s.setC c).cpuSteps = s.cpuSteps := rfl
@[simp] theorem State.setC_host (s : State) (c : Bool) : (s.setC c).host = s.host := rfl
@[simp] theorem State.setC_cfg (s : State) (c : Bool) : (s.setC c).cfg = s.cfg := rfl
@[simp] theorem State.setC_cpu_a (s : State) (c : Bool) : (s.setC c).cpu.a = s.cpu.a := rfl
@[simp] theorem State.setC_cpu_x (s : State) (c : Bool) : (s.setC c).cpu.x = s.cpu.x := rfl
@[simp] theorem State.setC_cpu_y (s : State) (c : Bool) : (s.setC c).cpu.y = s.cpu.y := rfl
@[simp] theorem State.setC_cpu_sp (s : State) (c : Bool) : (s.setC c).cpu.sp = s.cpu.sp := rfl
@[simp] theorem State.setC_cpu_pc (s : State) (c : Bool) : (s.setC c).cpu.pc = s.cpu.pc := rfl
@[simp] theorem State.setC_cpu_flags (s : State) (c : Bool) : (s.setC c).cpu.flags = { s.cpu.flags with c := c } := rfl
@[simp] theorem State.setC_cpu_resetPending (s : State) (c : Bool) : (s.setC c).cpu.resetPending = s.cpu.resetPending := rfl
@[simp] theorem State.setC_cpu_nmiPending (s : State) (c : Bool) : (s.setC c).cpu.nmiPending = s.cpu.nmiPending := rfl
@[simp] theorem State.setC_cpu_servicing (s : State) (c : Bool) : (s.setC c).cpu.servicing = s.cpu.servicing := rfl

@[simp] theorem State.setI_scratch (s : State) (i : Bool) : (s.setI i).scratch = s.scratch := rfl
@[simp] theorem State.setI_fault (s : State) (i : Bool) : (s.setI i).fault = s.fault := rfl
@[simp] theorem State.setI_ram (s : State) (i : Bool) : (s.setI i).ram = s.ram := rfl
@[simp] theorem State.setI_ppu (s : State) (i : Bool) : (s.setI i).ppu = s.ppu := rfl
@[simp] theorem State.setI_fb (s : State) (i : Bool) : (s.setI i).fb = s.fb := rfl
@[simp] theorem State.setI_ctl (s : State) (i : Bool) : (s.setI i).ctl = s.ctl := rfl
@[simp] theorem State.setI_drv (s : State) (i : Bool) : (s.setI i).drv = s.drv := rfl
@[simp] theorem State.setI_cart (s : State) (i : Bool) : (s.setI i).cart = s.cart := rfl
@[simp] theorem State.setI_cpuSteps (s : State) (i : Bool) : (s.setI i).cpuSteps = s.cpuSteps := rfl
@[simp] theorem State.setI_host (s : State) (i : Bool) : (s.setI i).host = s.host := rfl
@[simp] theorem State.setI_cfg (s : State) (i : Bool) : (s.setI i).cfg = s.cfg := rfl
@[simp] theorem State.setI_cpu_a (s : State) (i : Bool) : (s.setI i).cpu.a = s.cpu.a := rfl
@[simp] theorem State.setI_cpu_x (s : State) (i : Bool) : (s.setI i).cpu.x = s.cpu.x := rfl
@[simp] theorem State.setI_cpu_y (s : State) (i : Bool) : (s.setI i).cpu.y = s.cpu.y := rfl
@[simp] theorem State.setI_cpu_sp (s : State) (i : Bool) : (s.setI i).cpu.sp = s.cpu.sp := rfl
@[simp] theorem State.setI_cpu_pc (s : State) (i : Bool) : (s.setI i).cpu.pc = s.cpu.pc := rfl
@[simp] theorem State.setI_cpu_flags (s : State) (i : Bool) : (s.setI i).cpu.flags = { s.cpu.flags with i := i } := rfl
@[simp] theorem State.setI_cpu_resetPending (s : State) (i : Bool) : (s.setI i).cpu.resetPending = s.cpu.resetPending := rfl
@[simp] theorem State.setI_cpu_nmiPending (s : State) (i : Bool) : (s.setI i).cpu.nmiPending = s.cpu.nmiPending := rfl
@[simp] theorem State.setI_cpu_servicing (s : State) (i : Bool) : (s.setI i).cpu.servicing = s.cpu.servicing := rfl

@[simp] theorem State.compare_scratch (s : State) (r m : Byte) : (s.compare r m).scratch = s.scratch := rfl
@[simp] theorem State.compare_fault (s : State) (r m : Byte) : (s.compare r m).fault = s.fault := rfl
@[simp] theorem State.compare_ram (s : State) (r m : Byte) : (s.compare r m).ram = s.ram := rfl
@[simp] theorem State.compare_ppu (s : State) (r m : Byte) : (s.compare r m).ppu = s.ppu := rfl
@[simp] theorem State.compare_fb (s : State) (r m : Byte) : (s.compare r m).fb = s.fb := rfl
@[simp] theorem State.compare_ctl (s : State) (r m : Byte) : (s.compare r m).ctl = s.ctl := rfl
@[simp] theorem State.compare_drv (s : State) (r m : Byte) : (s.compare r m).drv = s.drv := rfl
@[simp] theorem State.compare_cart (s : State) (r m : Byte) : (s.compare r m).cart = s.cart := rfl
@[simp] theorem State.compare_cpuSteps (s : State) (r m : Byte) : (s.compare r m).cpuSteps = s.cpuSteps := rfl
@[simp] theorem State.compare_host (s : State) (r m : Byte) : (s.compare r m).host = s.host := rfl
@[simp] theorem State.compare_cfg (s : State) (r m : Byte) : (s.compare r m).cfg = s.cfg := rfl
@[simp] theorem State.compare_cpu_a (s : State) (r m : Byte) : (s.compare r m).cpu.a = s.cpu.a := rfl
@[simp] theorem State.compare_cpu_x (s : State) (r m : Byte) : (s.compare r m).cpu.x = s.cpu.x := rfl
@[simp] theorem State.compare_cpu_y (s : State) (r m : Byte) : (s.compare r m).cpu.y = s.cpu.y := rfl
@[simp] theorem State.compare_cpu_sp (s : State) (r m : Byte) : (s.compare r m).cpu.sp = s.cpu.sp := rfl
@[simp] theorem State.compare_cpu_pc (s : State) (r m : Byte) : (s.compare r m).cpu.pc = s.cpu.pc := rfl
@[simp] theorem State.compare_cpu_flags (s : State) (r m : Byte) : (s.compare r m).cpu.flags = s.cpu.flags.compare r m := rfl
@[simp] theorem State.compare_cpu_resetPending (s : State) (r m : Byte) : (s.compare r m).cpu.resetPending = s.cpu.resetPending := rfl
@[simp] theorem State.compare_cpu_nmiPending (s : State) (r m : Byte) : (s.compare r m).cpu.nmiPending = s.cpu.nmiPending := rfl
@[simp] theorem State.compare_cpu_servicing (s : State) (r m : Byte) : (s.compare r m).cpu.servicing = s.cpu.servicing := rfl

@[simp] theorem State.addWithCarry_scratch (s : State) (m : Byte) : (s.addWithCarry m).scratch = s.scratch := rfl
@[simp] theorem State.addWithCarry_fault (s : State) (m : Byte) : (s.addWithCarry m).fault = s.fault := rfl
@[simp] theorem State.addWithCarry_ram (s : State) (m : Byte) : (s.addWithCarry m).ram = s.ram := rfl
@[simp] theorem State.addWithCarry_ppu (s : State) (m : Byte) : (s.addWithCarry m).ppu = s.ppu := rfl
@[simp] theorem State.addWithCarry_fb (s : State) (m : Byte) : (s.addWithCarry m).fb = s.fb := rfl
@[simp] theorem State.addWithCarry_ctl (s : State) (m : Byte) : (s.addWithCarry m).ctl = s.ctl := rfl
@[simp] theorem State.addWithCarry_drv (s : State) (m : Byte) : (s.addWithCarry m).drv = s.drv := rfl
@[simp] theorem State.addWithCarry_cart (s : State) (m : Byte) : (s.addWithCarry m).cart = s.cart := rfl
@[simp] theorem State.addWithCarry_cpuSteps (s : State) (m : Byte) : (s.addWithCarry m).cpuSteps = s.cpuSteps := rfl
@[simp] theorem State.addWithCarry_host (s : State) (m : Byte) : (s.addWithCarry m).host = s.host := rfl
@[simp] theorem State.addWithCarry_cfg (s : State) (m : Byte) : (s.addWithCarry m).cfg = s.cfg := rfl
@[simp] theorem State.addWithCarry_cpu_a (s : State) (m : Byte) : (s.addWithCarry m).cpu.a = adcResult s.cpu.a m s.cpu.flags.c := rfl
@[simp] theorem State.addWithCarry_cpu_x (s : State) (m : Byte) : (s.addWithCarry m).cpu.x = s.cpu.x := rfl
@[simp] theorem State.addWithCarry_cpu_y (s : State) (m : Byte) : (s.addWithCarry m).cpu.y = s.cpu.y := rfl
@[simp] theorem State.addWithCarry_cpu_sp (s : State) (m : Byte) : (s.addWithCarry m).cpu.sp = s.cpu.sp := rfl
@[simp] theorem State.addWithCarry_cpu_pc (s : State) (m : Byte) : (s.addWithCarry m).cpu.pc = s.cpu.pc := rfl
@[simp] theorem State.addWithCarry_cpu_flags (s : State) (m : Byte) : (s.addWithCarry m).cpu.flags = s.cpu.flags.adc s.cpu.a m := rfl
@[simp] theorem State.addWithCarry_cpu_resetPending (s : State) (m : Byte) : (s.addWithCarry m).cpu.resetPending = s.cpu.resetPending := rfl
@[simp] theorem State.addWithCarry_cpu_nmiPending (s : State) (m : Byte) : (s.addWithCarry m).cpu.nmiPending = s.cpu.nmiPending := rfl
@[simp] theorem State.addWithCarry_cpu_servicing (s : State) (m : Byte) : (s.addWithCarry m).cpu.servicing = s.cpu.servicing := rfl

@[simp] theorem State.beginStep_cpu (s : State) : (s.beginStep).cpu = s.cpu := rfl
@[simp] theorem State.beginStep_scratch (s : State) : (s.beginStep).scratch = { crossed := false, taken := false, dmaStall := 0 } := rfl
@[simp] theorem State.beginStep_fault (s : State) : (s.beginStep).fault = s.fault := rfl
@[simp] theorem State.beginStep_ram (s : State) : (s.beginStep).ram = s.ram := rfl
@[simp] theorem State.beginStep_ppu (s : State) : (s.beginStep).ppu = s.ppu := rfl
@[simp] theorem State.beginStep_fb (s : State) : (s.beginStep).fb = s.fb := rfl
@[simp] theorem State.beginStep_ctl (s : State) : (s.beginStep).ctl = s.ctl := rfl
@[simp] theorem State.beginStep_drv (s : State) : (s.beginStep).drv = s.drv := rfl
@[simp] theorem State.beginStep_cart (s : State) : (s.beginStep).cart = s.cart := rfl
@[simp] theorem State.beginStep_cpuSteps (s : State) : (s.beginStep).cpuSteps = s.cpuSteps := rfl
@[simp] theorem State.beginStep_host (s : State) : (s.beginStep).host = s.host := rfl
@[simp] theorem State.beginStep_cfg (s : State) : (s.beginStep).cfg = s.cfg := rfl

@[simp] theorem State.charge_cpu (s : State) (n : Nat) : (s.charge n).cpu = s.cpu := rfl
@[simp] theorem State.charge_scratch (s : State) (n : Nat) : (s.charge n).scratch = s.scratch := rfl
@[simp] theorem State.charge_fault (s : State) (n : Nat) : (s.charge n).fault = s.fault := rfl
@[simp] theorem State.charge_ram (s : State) (n : Nat) : (s.charge n).ram = s.ram := rfl
@[simp] theorem State.charge_ppu (s : State) (n : Nat) : (s.charge n).ppu = s.ppu := rfl
@[simp] theorem State.charge_fb (s : State) (n : Nat) : (s.charge n).fb = s.fb := rfl
@[simp] theorem State.charge_ctl (s : State) (n : Nat) : (s.charge n).ctl = s.ctl := rfl
@[simp] theorem State.charge_drv (s : State) (n : Nat) : (s.charge n).drv = { s.drv with acc := s.drv.acc + n } := rfl
@[simp] theorem State.charge_cart (s : State) (n : Nat) : (s.charge n).cart = s.cart := rfl
@[simp] theorem State.charge_cpuSteps (s : State) (n : Nat) : (s.charge n).cpuSteps = s.cpuSteps + 1 := rfl
@[simp] theorem State.charge_host (s : State) (n : Nat) : (s.charge n).host = s.host := rfl
@[simp] theorem State.charge_cfg (s : State) (n : Nat) : (s.charge n).cfg = s.cfg := rfl

@[simp] theorem State.halt_cpu (s : State) (k : FaultKind) : (s.halt k).cpu = s.cpu := rfl
@[simp] theorem State.halt_scratch (s : State) (k : FaultKind) : (s.halt k).scratch = s.scratch := rfl
@[simp] theorem State.halt_fault (s : State) (k : FaultKind) : (s.halt k).fault = some k := rfl
@[simp] theorem State.halt_ram (s : State) (k : FaultKind) : (s.halt k).ram = s.ram := rfl
@[simp] theorem State.halt_ppu (s : State) (k : FaultKind) : (s.halt k).ppu = s.ppu := rfl
@[simp] theorem State.halt_fb (s : State) (k : FaultKind) : (s.halt k).fb = s.fb := rfl
@[simp] theorem State.halt_ctl (s : State) (k : FaultKind) : (s.halt k).ctl = s.ctl := rfl
@[simp] theorem State.halt_drv (s : State) (k : FaultKind) : (s.halt k).drv = s.drv := rfl
@[simp] theorem State.halt_cart (s : State) (k : FaultKind) : (s.halt k).cart = s.cart := rfl
@[simp] theorem State.halt_cpuSteps (s : State) (k : FaultKind) : (s.halt k).cpuSteps = s.cpuSteps := rfl
@[simp] theorem State.halt_host (s : State) (k : FaultKind) : (s.halt k).host = s.host := rfl
@[simp] theorem State.halt_cfg (s : State) (k : FaultKind) : (s.halt k).cfg = s.cfg := rfl

end Sys2Proof.Machine
end

