-- ==== Sys2Proof/Laws/Bus.lean ====
section
/-! SUPPORT. What a CPU bus access can do: its value in RAM, and, wherever it goes, what it leaves alone and that it keeps
the invariant. -/

namespace Sys2Proof.Machine

theorem memRead_ram {a : Word} (h : a.toNat ≤ 0x1FFF) (s : State) : memRead a s = .ok (ramByte s a) s := by
  simp [memRead, h, ramByte]

theorem memWrite_ram {a : Word} (h : a.toNat ≤ 0x1FFF) (v : Byte) (s : State) :
    memWrite a v s = .ok () (s.setRam (s.ram.write (ramIndex a) v)) := by
  simp [memWrite, h]

/-- A byte of RAM or of the cartridge is read without a side effect (R62, R67, R74). -/
theorem memRead_plain {s : State} {a : Word} {b : Byte} (h : plainRead s a = some b) : memRead a s = .ok b s := by
  have notInert : ∀ {p : Prop}, ¬ a.toNat ≤ 0x401F → (inertApu a = true → p) := by
    intro p ha hi
    simp only [inertApu, Bool.decide_or, Bool.decide_and, Bool.or_eq_true, Bool.and_eq_true, decide_eq_true_eq] at hi
    omega
  simp only [plainRead] at h
  split at h
  · rename_i ha
    cases h
    exact memRead_ram ha s
  · split at h
    · cases h
    · rename_i h₁ h₂
      have h₃ : ¬ a.toNat ≤ 0x3FFF := by omega
      have h₄ : ¬ a.toNat = 0x4014 := by omega
      have h₅ : ¬ a.toNat = 0x4016 := by omega
      have h₆ : inertApu a = false := by
        cases hi : inertApu a
        · rfl
        · exact notInert h₂ hi
      simp only [memRead, if_neg h₁, if_neg h₃, h₆, if_neg h₄, if_neg h₅, if_neg h₂, cartCpuRead, Bool.false_eq_true,
        if_false]
      cases hc : s.cfg.cart <;> simp only [hc] at h ⊢
      · split at h
        · rename_i h₇; cases h; simp [h₇]
        · cases h
      · simp [externalRead, h]

/-- A byte of the cartridge's window that does not answer raises, and nothing has changed (R12, R84, R88). -/
theorem memRead_silent {s : State} {a : Word} (ha : 0x401F < a.toNat) (h : plainRead s a = none) :
    memRead a s = .raise (.unmappedCpuAddress a .read) s := by
  have hi : inertApu a = false := by
    cases hi : inertApu a
    · rfl
    · simp only [inertApu, Bool.decide_or, Bool.decide_and, Bool.or_eq_true, Bool.and_eq_true, decide_eq_true_eq] at hi
      omega
  rw [plainRead, if_neg (by omega), if_neg (by omega)] at h
  rw [memRead, if_neg (by omega), if_neg (by omega), hi, if_neg (by decide), if_neg (by omega), if_neg (by omega),
    if_neg (by omega), cartCpuRead]
  cases hc : s.cfg.cart <;> simp only [hc] at h ⊢
  · split at h
    · cases h
    · rename_i h₁; rw [if_neg h₁]
  · rw [h]; rfl

theorem ramIndex_lt (a : Word) : ramIndex a < 0x800 := Nat.mod_lt _ (by decide)

/-- What an action on the CPU's side leaves alone, and that it keeps the invariant. -/
structure CpuFrame (s t : State) : Prop where
  fault : t.fault = s.fault
  fb : t.fb = s.fb
  drv : t.drv = s.drv
  cpuSteps : t.cpuSteps = s.cpuSteps
  host : t.host = s.host
  cfg : t.cfg = s.cfg
  prg : t.cart.prg = s.cart.prg
  chr : s.cfg.cart = .nrom → s.cfg.chrWrite ≠ .ram → t.cart.chr = s.cart.chr
  memories : MemoriesOk s → MemoriesOk t
  strobe : (s.ctl.strobe = true → s.ctl.shift = s.ctl.buttons) → t.ctl.strobe = true → t.ctl.shift = t.ctl.buttons
  buttons : t.ctl.buttons = s.ctl.buttons
  stall : s.scratch.dmaStall = 0 ∨ s.scratch.dmaStall = 514 → t.scratch.dmaStall = 0 ∨ t.scratch.dmaStall = 514

theorem CpuFrame.refl (s : State) : CpuFrame s s := by constructor <;> try simp

theorem CpuFrame.trans {s t u : State} (h : CpuFrame s t) (k : CpuFrame t u) : CpuFrame s u :=
  { fault := k.fault.trans h.fault
    fb := k.fb.trans h.fb
    drv := k.drv.trans h.drv
    cpuSteps := k.cpuSteps.trans h.cpuSteps
    host := k.host.trans h.host
    cfg := k.cfg.trans h.cfg
    prg := k.prg.trans h.prg
    chr := fun n w => (k.chr (h.cfg ▸ n) (h.cfg ▸ w)).trans (h.chr n w)
    memories := fun m => k.memories (h.memories m)
    strobe := fun m => k.strobe (h.strobe m)
    buttons := k.buttons.trans h.buttons
    stall := fun m => k.stall (h.stall m) }

theorem CpuFrame.inv {s t : State} (h : CpuFrame s t) (i : Inv s) : Inv t :=
  { memories := h.memories i.memories
    strobe := h.strobe i.strobe
    stall := h.stall i.stall
    line := by simpa [LineOk, h.drv, h.cfg] using i.line
    cfg := by rw [h.cfg]; exact i.cfg }

/-- The CPU's registers and latches are on no bus. -/
theorem CpuFrame.setCpu (s : State) (c : Cpu) : CpuFrame s (s.setCpu c) := by
  constructor <;> try simp [State.setCpu]
  exact fun m => ⟨m.ram, m.oam, m.pal, m.noAlias, m.ciram, m.chr, m.prg, m.fb⟩

theorem CpuFrame.setCrossed (s : State) (v : Bool) : CpuFrame s (s.setCrossed v) := by
  constructor <;> try simp
  exact fun m => ⟨m.ram, m.oam, m.pal, m.noAlias, m.ciram, m.chr, m.prg, m.fb⟩

theorem CpuFrame.setTaken (s : State) (v : Bool) : CpuFrame s (s.setTaken v) := by
  constructor <;> try simp
  exact fun m => ⟨m.ram, m.oam, m.pal, m.noAlias, m.ciram, m.chr, m.prg, m.fb⟩

theorem CpuFrame.setDmaStall (s : State) (v : Nat) (h : v = 0 ∨ v = 514) : CpuFrame s (s.setDmaStall v) := by
  constructor <;> try simp [h]
  exact fun m => ⟨m.ram, m.oam, m.pal, m.noAlias, m.ciram, m.chr, m.prg, m.fb⟩

theorem CpuFrame.setCtl (s : State) (c : Controller)
    (h : (s.ctl.strobe = true → s.ctl.shift = s.ctl.buttons) → c.strobe = true → c.shift = c.buttons)
    (hb : c.buttons = s.ctl.buttons) : CpuFrame s (s.setCtl c) := by
  constructor <;> try simp [hb]
  · exact fun m => ⟨m.ram, m.oam, m.pal, m.noAlias, m.ciram, m.chr, m.prg, m.fb⟩
  · simpa [hb] using h

theorem CpuFrame.setRam (s : State) (k : Nat) (v : Byte) (h : k < 0x800) : CpuFrame s (s.setRam (s.ram.write k v)) := by
  constructor <;> try simp
  exact fun m => ⟨⟨Memory.wf_write m.ram.1 k v, Memory.below_write m.ram.2 h v⟩, m.oam, m.pal, m.noAlias, m.ciram, m.chr,
    m.prg, m.fb⟩

/-- A change of the PPU that keeps its two memories well formed. -/
theorem CpuFrame.setPpu (s : State) (p : Ppu) (ho : Memory.ok s.ppu.oam 256 → Memory.ok p.oam 256)
    (hp : p.pal = s.ppu.pal) : CpuFrame s (s.setPpu p) := by
  constructor <;> try simp
  exact fun m => ⟨m.ram, ho m.oam, by simpa [hp] using m.pal, by simpa [hp] using m.noAlias, m.ciram, m.chr, m.prg, m.fb⟩

theorem palIndex_palIndex (a : Nat) : palIndex (palIndex a) = palIndex a := by
  have h : a % 0x20 < 0x20 := Nat.mod_lt _ (by decide)
  have hd : ∀ p : Fin 32, (fun q => if q = 0x10 ∨ q = 0x14 ∨ q = 0x18 ∨ q = 0x1C then q - 0x10 else q)
      ((if p.1 = 0x10 ∨ p.1 = 0x14 ∨ p.1 = 0x18 ∨ p.1 = 0x1C then p.1 - 0x10 else p.1) % 0x20)
      = if p.1 = 0x10 ∨ p.1 = 0x14 ∨ p.1 = 0x18 ∨ p.1 = 0x1C then p.1 - 0x10 else p.1 := by decide
  exact hd ⟨a % 0x20, h⟩

theorem palIndex_lt (a : Nat) : palIndex a < 32 := by
  have h : a % 0x20 < 0x20 := Nat.mod_lt _ (by decide)
  simp only [palIndex]
  split <;> omega

theorem CpuFrame.setPal (s : State) (a : Nat) (v : Byte) :
    CpuFrame s (s.setPpu { s.ppu with pal := s.ppu.pal.write (palIndex a) v }) := by
  constructor <;> try simp
  refine fun m => ⟨m.ram, m.oam, ⟨Memory.wf_write m.pal.1 _ v, Memory.below_write m.pal.2 (palIndex_lt a) v⟩, ?_,
    m.ciram, m.chr, m.prg, m.fb⟩
  intro c hc
  rcases Memory.mem_write hc with h | h
  · rw [h, palIndex_palIndex]
  · exact m.noAlias c h

/-- A change of the cartridge that keeps its memories well formed, its program ROM, and its pattern ROM. -/
theorem CpuFrame.setCart (s : State) (c : Cart) (hp : c.prg = s.cart.prg)
    (hk : s.cfg.cart = .nrom → s.cfg.chrWrite ≠ .ram → c.chr = s.cart.chr)
    (hc : Memory.ok s.cart.ciram 0x800 → Memory.ok c.ciram 0x800)
    (hr : Memory.ok s.cart.chr 0x2000 → Memory.ok c.chr 0x2000) : CpuFrame s (s.setCart c) := by
  constructor <;> try simp [hp]
  · exact hk
  · exact fun m => ⟨m.ram, m.oam, m.pal, m.noAlias, hc m.ciram, hr m.chr, by simpa [hp] using m.prg, m.fb⟩

/-! ## Reads -/

theorem externalRead_eq_ok {o : Option Byte} {k : FaultKind} {s t : State} {b : Byte} :
    externalRead o k s = .ok b t ↔ o = some b ∧ t = s := by
  cases o <;> simp [externalRead, eq_comm]

/-- A PPU bus read changes nothing (R83). -/
theorem ppuRead_eq_ok {a : Word} {s t : State} {b : Byte} (h : ppuRead a s = .ok b t) : t = s := by
  simp only [ppuRead, ppuReadLow, cartChrRead, cartNtRead] at h
  repeat' split at h
  all_goals first
    | exact (externalRead_eq_ok.mp h).2
    | (cases h; rfl)
    | simp at h

/-- A read of the cartridge over the program window changes nothing (R84). -/
theorem cartCpuRead_eq_ok {a : Word} {s t : State} {b : Byte} (h : cartCpuRead a s = .ok b t) : t = s := by
  simp only [cartCpuRead] at h
  repeat' split at h
  all_goals first
    | exact (externalRead_eq_ok.mp h).2
    | (cases h; rfl)
    | simp at h

/-- What a Data read can change: the read buffer and v (R271). -/
theorem ppuDataRead_eq_ok {s t : State} {b : Byte} (h : ppuDataRead s = .ok b t) :
    ∃ c, t = s.setPpu { s.ppu with buffer := c, v := s.ppu.incremented } := by
  simp only [ppuDataRead] at h
  split at h
  · simp at h
  · obtain ⟨r, u, h₁, h₂⟩ := Res.andThen_eq_ok.mp h
    cases h₂
    simp only [ppuDataFetch] at h₁
    split at h₁
    · obtain ⟨r', u', h₃, h₄⟩ := Res.andThen_eq_ok.mp h₁
      cases ppuRead_eq_ok h₃
      split at h₄
      · cases h₄; exact ⟨_, rfl⟩
      · obtain ⟨b', u'', h₅, h₆⟩ := Res.andThen_eq_ok.mp h₄
        cases ppuRead_eq_ok h₅
        cases h₆
        exact ⟨b', rfl⟩
    · obtain ⟨r', u', h₃, h₄⟩ := Res.andThen_eq_ok.mp h₁
      cases ppuRead_eq_ok h₃
      cases h₄
      exact ⟨r', rfl⟩

/-- What a CPU bus read can change (R74): in the PPU vblank, w, v and the read buffer, and the controller's shift
register, which moves only with the strobe off. -/
theorem memRead_eq_ok {a : Word} {s t : State} {b : Byte} (h : memRead a s = .ok b t) :
    ∃ vb w v c sh, t = (s.setPpu { s.ppu with vblank := vb, w := w, v := v, buffer := c }).setCtl { s.ctl with shift := sh }
      ∧ (s.ctl.strobe = true → sh = s.ctl.shift) := by
  have same : ∃ vb w v c sh,
      s = (s.setPpu { s.ppu with vblank := vb, w := w, v := v, buffer := c }).setCtl { s.ctl with shift := sh }
        ∧ (s.ctl.strobe = true → sh = s.ctl.shift) := ⟨_, _, _, _, _, rfl, fun _ => rfl⟩
  simp only [memRead] at h
  split at h
  · cases h; exact same
  · split at h
    · generalize ppuReg a = r at h
      cases r <;> simp only [ppuRegRead] at h
      case status => cases h; exact ⟨false, false, _, _, _, rfl, fun _ => rfl⟩
      case data =>
        obtain ⟨c, rfl⟩ := ppuDataRead_eq_ok h
        exact ⟨_, _, _, c, _, rfl, fun _ => rfl⟩
      all_goals (cases h; exact same)
    · split at h
      · cases h; exact same
      · split at h
        · cases h; exact same
        · split at h
          · simp only [ctlRead] at h
            cases h
            by_cases hs : s.ctl.strobe = true
            · have hc : s.ctl.shifted = s.ctl := if_pos hs
              rw [hc]; exact same
            · refine ⟨s.ppu.vblank, s.ppu.w, s.ppu.v, s.ppu.buffer, s.ctl.shift >>> 1, ?_, fun h => absurd h hs⟩
              simp [Controller.shifted, hs, State.setCtl, State.setPpu]
          · split at h
            · simp at h
            · cases cartCpuRead_eq_ok h; exact same

theorem memRead_frame {a : Word} {s t : State} {b : Byte} (h : memRead a s = .ok b t) :
    CpuFrame s t ∧ t.cpu = s.cpu ∧ t.scratch = s.scratch ∧ t.ram = s.ram ∧ t.cart = s.cart := by
  obtain ⟨vb, w, v, c, sh, rfl, hs⟩ := memRead_eq_ok h
  refine ⟨(CpuFrame.setPpu s { s.ppu with vblank := vb, w := w, v := v, buffer := c } id rfl).trans
    (CpuFrame.setCtl _ { s.ctl with shift := sh } ?_ rfl), rfl, rfl, rfl, rfl⟩
  intro hi ht
  simp only [State.setPpu] at hi ht ⊢
  rw [hs ht]; exact hi ht

/-! ## Writes -/

theorem Ppu.writeOamData_ok {p : Ppu} (d : Byte) (h : Memory.ok p.oam 256) : Memory.ok (p.writeOamData d).oam 256 :=
  ⟨Memory.wf_write h.1 _ d, Memory.below_write h.2 p.oamAddr.isLt d⟩

theorem dmaByte_frame {page : Byte} {i : Nat} {s t : State} (h : dmaByte page i s = .ok () t) : CpuFrame s t := by
  obtain ⟨b, u, h₁, h₂⟩ := Res.andThen_eq_ok.mp h
  cases h₂
  exact (memRead_frame h₁).1.trans (CpuFrame.setPpu u _ (Ppu.writeOamData_ok b) rfl)

theorem oamDma_frame {page : Byte} {s t : State} (h : oamDma page s = .ok () t) : CpuFrame s t := by
  obtain ⟨_, u, h₁, h₂⟩ := Res.andThen_eq_ok.mp h
  cases h₂
  exact (forEach_rel CpuFrame.refl CpuFrame.trans (fun _ _ _ => dmaByte_frame) h₁).trans
    (CpuFrame.setDmaStall u _ (.inr rfl))

theorem externalWrite_frame {o : Option Nat} {k : FaultKind} {s t : State} (h : externalWrite o k s = .ok () t) :
    CpuFrame s t := by
  cases o <;> simp only [externalWrite] at h
  · simp at h
  · cases h; exact CpuFrame.setCart s _ rfl (fun _ _ => rfl) id id

theorem ntCell_lt (m : Mirroring) (a : Word) : ntCell m a < 0x800 := by
  cases m <;> simp only [ntCell] <;> omega

theorem ppuWriteLow_frame {a : Word} {v : Byte} {s t : State} (h : ppuWriteLow a v s = .ok () t) : CpuFrame s t := by
  simp only [ppuWriteLow] at h
  split at h
  · rename_i ha
    simp only [cartChrWrite] at h
    split at h
    · split at h
      · simp at h
      · cases h; exact CpuFrame.refl s
      · rename_i hw
        cases h
        exact CpuFrame.setCart s _ rfl (fun _ w => absurd hw w) id fun m =>
          ⟨Memory.wf_write m.1 _ v, Memory.below_write m.2 (by omega) v⟩
    · exact externalWrite_frame h
  · split at h
    · simp only [cartNtWrite] at h
      split at h
      · cases h
        exact CpuFrame.setCart s _ rfl (fun _ _ => rfl)
          (fun m => ⟨Memory.wf_write m.1 _ v, Memory.below_write m.2 (ntCell_lt _ a) v⟩) id
      · exact externalWrite_frame h
    · cases h; exact CpuFrame.setPal s _ v

theorem ppuWrite_frame {a : Word} {v : Byte} {s t : State} (h : ppuWrite a v s = .ok () t) : CpuFrame s t := by
  simp only [ppuWrite] at h
  split at h
  · split at h
    · simp at h
    · exact ppuWriteLow_frame h
  · exact ppuWriteLow_frame h

theorem ppuRegWrite_frame {r : PpuReg} {d : Byte} {s t : State} (h : ppuRegWrite r d s = .ok () t) : CpuFrame s t := by
  cases r <;> simp only [ppuRegWrite] at h
  case status => cases h; exact CpuFrame.refl s
  case oamData => cases h; exact CpuFrame.setPpu s _ (Ppu.writeOamData_ok d) rfl
  case scroll => cases h; refine CpuFrame.setPpu s _ ?_ ?_ <;> simp only [Ppu.writeScroll] <;> split <;> simp
  case address => cases h; refine CpuFrame.setPpu s _ ?_ ?_ <;> simp only [Ppu.writeAddress] <;> split <;> simp
  case data =>
    obtain ⟨_, u, h₁, h₂⟩ := Res.andThen_eq_ok.mp h
    cases h₂
    exact (ppuWrite_frame h₁).trans (CpuFrame.setPpu u _ id rfl)
  all_goals (cases h; exact CpuFrame.setPpu s _ id rfl)

theorem memWrite_frame {a : Word} {v : Byte} {s t : State} (h : memWrite a v s = .ok () t) : CpuFrame s t := by
  simp only [memWrite] at h
  split at h
  · cases h; exact CpuFrame.setRam s _ v (ramIndex_lt a)
  · split at h
    · exact ppuRegWrite_frame h
    · split at h
      · cases h; exact CpuFrame.refl s
      · split at h
        · exact oamDma_frame h
        · split at h
          · simp only [ctlWrite] at h
            cases h
            refine CpuFrame.setCtl s _ ?_ ?_ <;> simp only [Controller.write] <;> split <;> simp
          · split at h
            · simp at h
            · simp only [cartCpuWrite] at h
              split at h
              · split at h
                · split at h
                  · simp at h
                  · cases h; exact CpuFrame.refl s
                · simp at h
              · exact externalWrite_frame h

/-- A CPU bus write never touches the CPU's registers and latches (R275). -/
theorem memWrite_cpu {a : Word} {v : Byte} {s t : State} (h : memWrite a v s = .ok () t) : t.cpu = s.cpu := by
  have dma : ∀ {l : List Nat} {s t : State}, forEach l (dmaByte v) s = .ok () t → t.cpu = s.cpu := fun {l s t} h =>
    forEach_rel (R := fun s t => t.cpu = s.cpu) (fun _ => rfl) (fun h k => k.trans h) (fun i s t h => by
      obtain ⟨b, u, h₁, h₂⟩ := Res.andThen_eq_ok.mp h
      cases h₂
      exact (memRead_frame h₁).2.1) h
  have ext : ∀ {o : Option Nat} {k : FaultKind} {s t : State}, externalWrite o k s = .ok () t → t.cpu = s.cpu := by
    intro o k s t h
    cases o <;> simp only [externalWrite] at h
    · simp at h
    · cases h; rfl
  have low : ∀ {a : Word} {s t : State}, ppuWriteLow a v s = .ok () t → t.cpu = s.cpu := by
    intro a s t h
    simp only [ppuWriteLow, cartChrWrite, cartNtWrite] at h
    repeat' split at h
    all_goals first
      | exact ext h
      | (cases h; rfl)
      | simp at h
  simp only [memWrite] at h
  split at h
  · cases h; rfl
  · split at h
    · generalize ppuReg a = r at h
      cases r <;> simp only [ppuRegWrite] at h
      case data =>
        obtain ⟨_, u, h₁, h₂⟩ := Res.andThen_eq_ok.mp h
        cases h₂
        have hu : u.cpu = s.cpu := by
          simp only [ppuWrite] at h₁
          repeat' split at h₁
          all_goals first
            | exact low h₁
            | (exfalso; simp at h₁; done)
        exact hu
      all_goals (cases h; rfl)
    · split at h
      · cases h; rfl
      · split at h
        · obtain ⟨_, u, h₁, h₂⟩ := Res.andThen_eq_ok.mp h
          cases h₂
          have := dma h₁
          exact this
        · split at h
          · cases h; rfl
          · split at h
            · simp at h
            · simp only [cartCpuWrite] at h
              repeat' split at h
              all_goals first
                | exact ext h
                | (cases h; rfl)
                | simp at h

end Sys2Proof.Machine
end

