-- ==== Sys2Proof/Laws/Operands.lean ====
section
/-! SUPPORT. What resolving, reading, writing and read-modify-writing an operand can do. -/

namespace Sys2Proof.Machine

theorem pageNext_zext16_le (b : Byte) : (pageNext (zext16 b)).toNat ≤ 0xFF := by
  revert b
  decide

theorem read16Wrap_zeroPage (b : Byte) (s : State) :
    read16Wrap (zext16 b) s = .ok (wrappedPointer s (zext16 b)) s := by
  have h₁ : (zext16 b).toNat ≤ 0x1FFF := Nat.le_trans (zext16_le b) (by decide)
  have h₂ : (pageNext (zext16 b)).toNat ≤ 0x1FFF := Nat.le_trans (pageNext_zext16_le b) (by decide)
  simp [read16Wrap, memRead_ram h₁, memRead_ram h₂, wrappedPointer]

theorem indyBase_eq (a : Byte) (s : State) : indyBase a s = .ok (indirectBase s a) s := by
  have h₁ : (zext16 a).toNat ≤ 0x1FFF := Nat.le_trans (zext16_le a) (by decide)
  simp only [indyBase, indirectBase]
  cases s.cfg.indyPtrWrap
  · exact read16Wrap_zeroPage a s
  · simp only [read16, memRead_ram h₁, memRead_ram (zext16_succ_le a), Res.andThen_ok]

/-- A mode with an effective address resolves to it, whatever the state, and sets `crossed` only (R120-R132). -/
theorem resolve_address {o : Operand} {s : State} {a : Word} (h : effectiveAddress o s = some a) :
    resolve o s = .ok (.addr a) (resolved o s) := by
  cases o <;> simp only [effectiveAddress, Option.some.injEq, reduceCtorEq] at h <;> subst h
  case indx b => simp [resolve, read16Wrap_zeroPage, resolved, crossing, State.setCrossed, State.setScratch]
  case indy b =>
    simp [resolve, indyBase_eq, resolved, crossing, pageCross, State.setCrossed, State.setScratch]
  case rel b =>
    simp only [resolve, resolved, crossing, relTarget, relCross, State.setCrossed, State.setScratch]
    rw [← page_ne_iff]
    rfl
  all_goals
    simp [resolve, resolved, crossing, pageCross, State.setCrossed, State.setScratch]

@[simp] theorem resolve_imp (s : State) : resolve .imp s = .ok .none (resolved .imp s) := rfl
@[simp] theorem resolve_acc (s : State) : resolve .acc s = .ok .none (resolved .acc s) := rfl
@[simp] theorem resolve_imm (b : Byte) (s : State) : resolve (.imm b) s = .ok (.imm b) (resolved (.imm b) s) := rfl

theorem CpuFrame.resolved (o : Operand) (s : State) : CpuFrame s (resolved o s) := CpuFrame.setCrossed s _

/-- What resolving can do: a pointer's two reads and `crossed` (R120). -/
theorem resolve_frame {o : Operand} {s t : State} {r : Resolved} (h : resolve o s = .ok r t) :
    CpuFrame s t ∧ t.cpu = s.cpu ∧ t.ram = s.ram ∧ t.cart = s.cart := by
  have base : ∀ o, CpuFrame s (resolved o s) ∧ (resolved o s).cpu = s.cpu ∧ (resolved o s).ram = s.ram
      ∧ (resolved o s).cart = s.cart := fun o => ⟨CpuFrame.resolved o s, rfl, rfl, rfl⟩
  cases ha : effectiveAddress o s with
  | some a => rw [resolve_address ha] at h; cases h; exact base o
  | none =>
    cases o <;> simp only [effectiveAddress, reduceCtorEq] at ha
    case ind l hi =>
      simp only [resolve, read16Wrap] at h
      obtain ⟨w, u, h₁, h₂⟩ := Res.andThen_eq_ok.mp h
      cases h₂
      obtain ⟨x, v, h₃, h₄⟩ := Res.andThen_eq_ok.mp h₁
      obtain ⟨y, v', h₅, h₆⟩ := Res.andThen_eq_ok.mp h₄
      cases h₆
      have f₁ := memRead_frame h₃
      have f₂ := memRead_frame h₅
      exact ⟨(f₁.1.trans f₂.1).trans (CpuFrame.setCrossed _ _), f₂.2.1.trans f₁.2.1, f₂.2.2.2.1.trans f₁.2.2.2.1,
        f₂.2.2.2.2.trans f₁.2.2.2.2⟩
    all_goals (cases h; exact ⟨CpuFrame.setCrossed s _, rfl, rfl, rfl⟩)

theorem loadOperand_frame {r : Resolved} {s t : State} {b : Byte} (h : loadOperand r s = .ok b t) :
    CpuFrame s t ∧ t.cpu = s.cpu ∧ t.ram = s.ram ∧ t.cart = s.cart := by
  cases r <;> simp only [loadOperand] at h
  case addr a => have f := memRead_frame h; exact ⟨f.1, f.2.1, f.2.2.2.1, f.2.2.2.2⟩
  all_goals (cases h; exact ⟨CpuFrame.refl s, rfl, rfl, rfl⟩)

theorem storeOperand_frame {r : Resolved} {v : Byte} {s t : State} (h : storeOperand r v s = .ok () t) :
    CpuFrame s t := by
  cases r <;> simp only [storeOperand] at h
  case none => cases h; exact CpuFrame.setCpu s _
  case imm => cases h; exact CpuFrame.refl s
  case addr a => exact memWrite_frame h

/-- A read-modify-write whose flag updates are on the CPU's side is on the CPU's side. -/
theorem rmw_frame {result : Byte → State → Byte} {before after : Byte → State → State}
    (hb : ∀ m s, CpuFrame s (before m s)) (ha : ∀ m s, CpuFrame s (after m s)) {r : Resolved} {s t : State}
    (h : rmw result before after r s = .ok () t) : CpuFrame s t := by
  obtain ⟨m, u, h₁, h₂⟩ := Res.andThen_eq_ok.mp h
  obtain ⟨_, v, h₃, h₄⟩ := Res.andThen_eq_ok.mp h₂
  cases h₄
  exact (((loadOperand_frame h₁).1.trans (hb _ _)).trans (storeOperand_frame h₃)).trans (ha _ _)

/-- An instruction's outcome is a next state exactly when its operand resolves and its meaning completes. -/
theorem perform_eq_next {o : Operand} {body : Resolved → State → Res Unit} {s t : State} :
    perform o body s = .next t ↔ ∃ r u, resolve o s = .ok r u ∧ body r u = .ok () t := by
  rw [perform, Res.toOutcome_eq_next, Res.andThen_eq_ok]

theorem perform_of_ok {o : Operand} {body : Resolved → State → Res Unit} {s u t : State} {r : Resolved}
    (h : resolve o s = .ok r u) (hb : body r u = .ok () t) : perform o body s = .next t :=
  perform_eq_next.mpr ⟨r, u, h, hb⟩

end Sys2Proof.Machine
end

