-- ==== Sys2Proof/Laws/Ops.lean ====
section
/-! SUPPORT. The stack as equations (it lies in RAM, so no stack access raises), and what the stack operations, the vector
entry and the return can do. -/

namespace Sys2Proof.Machine

theorem stackAddress_toNat (sp : Byte) : (stackAddress sp).toNat = 0x100 + sp.toNat := by
  rw [stackAddress, cat_toNat]
  rfl

theorem stackAddress_le (sp : Byte) : (stackAddress sp).toNat ≤ 0x1FFF := by
  have := sp.isLt
  rw [stackAddress_toNat]
  omega

theorem ramIndex_stackAddress (sp : Byte) : ramIndex (stackAddress sp) = 0x100 + sp.toNat := by
  have := sp.isLt
  rw [ramIndex, stackAddress_toNat]
  omega

theorem stackAddress_inj {a b : Byte} : stackAddress a = stackAddress b ↔ a = b := by
  refine ⟨fun h => ?_, fun h => h ▸ rfl⟩
  have := congrArg loByte h
  simpa [stackAddress] using this

theorem push_eq (v : Byte) (s : State) :
    push v s = .ok () ((s.setRam (s.ram.write (ramIndex (stackAddress s.cpu.sp)) v)).setSp (s.cpu.sp - 1)) := by
  rw [push, memWrite_ram (stackAddress_le _)]
  rfl

theorem pull_eq (s : State) :
    pull s = .ok (ramByte s (stackAddress (s.cpu.sp + 1))) (s.setSp (s.cpu.sp + 1)) := by
  rw [pull, memRead_ram (stackAddress_le _)]
  rfl

theorem pushWord_eq (w : Word) (s : State) :
    pushWord w s = .ok ()
      ((s.setRam ((s.ram.write (ramIndex (stackAddress s.cpu.sp)) (hiByte w)).write
        (ramIndex (stackAddress (s.cpu.sp - 1))) (loByte w))).setSp (s.cpu.sp - 1 - 1)) := by
  rw [pushWord, push_eq, Res.andThen_ok, push_eq]
  rfl

theorem pullWord_eq (s : State) :
    pullWord s = .ok (cat (ramByte s (stackAddress (s.cpu.sp + 1 + 1))) (ramByte s (stackAddress (s.cpu.sp + 1))))
      (s.setSp (s.cpu.sp + 1 + 1)) := by
  rw [pullWord, pull_eq, Res.andThen_ok, pull_eq]
  rfl

theorem returnFromInterrupt_eq (s : State) :
    returnFromInterrupt s = .ok ()
      ((((s.setSp (s.cpu.sp + 1 + 1 + 1)).setFlags (Flags.unpack (ramByte s (stackAddress (s.cpu.sp + 1))))).setPc
        (cat (ramByte s (stackAddress (s.cpu.sp + 1 + 1 + 1))) (ramByte s (stackAddress (s.cpu.sp + 1 + 1))))).setServicing
          false) := by
  rw [returnFromInterrupt, pull_eq, Res.andThen_ok, pullWord_eq]
  rfl

theorem read16_frame {a w : Word} {s t : State} (h : read16 a s = .ok w t) :
    CpuFrame s t ∧ t.cpu = s.cpu ∧ t.ram = s.ram ∧ t.cart = s.cart := by
  obtain ⟨x, v, h₁, h₂⟩ := Res.andThen_eq_ok.mp h
  obtain ⟨y, u, h₃, h₄⟩ := Res.andThen_eq_ok.mp h₂
  cases h₄
  have f₁ := memRead_frame h₁
  have f₂ := memRead_frame h₃
  exact ⟨f₁.1.trans f₂.1, f₂.2.1.trans f₁.2.1, f₂.2.2.2.1.trans f₁.2.2.2.1, f₂.2.2.2.2.trans f₁.2.2.2.2⟩

theorem push_frame {v : Byte} {s t : State} (h : push v s = .ok () t) : CpuFrame s t := by
  obtain ⟨_, u, h₁, h₂⟩ := Res.andThen_eq_ok.mp h
  cases h₂
  exact (memWrite_frame h₁).trans (CpuFrame.setCpu u _)

theorem pull_frame {b : Byte} {s t : State} (h : pull s = .ok b t) : CpuFrame s t := by
  rw [pull_eq] at h
  cases h
  exact CpuFrame.setCpu s _

theorem pushWord_frame {w : Word} {s t : State} (h : pushWord w s = .ok () t) : CpuFrame s t := by
  obtain ⟨_, u, h₁, h₂⟩ := Res.andThen_eq_ok.mp h
  exact (push_frame h₁).trans (push_frame h₂)

theorem pullWord_frame {w : Word} {s t : State} (h : pullWord s = .ok w t) : CpuFrame s t := by
  rw [pullWord_eq] at h
  cases h
  exact CpuFrame.setCpu s _

/-- Taking an interrupt pushes three bytes and reads a vector (R334, R339). -/
theorem enterVector_frame {ret vector : Word} {b : Bool} {s t : State} (h : enterVector ret b vector s = .ok () t) :
    CpuFrame s t := by
  obtain ⟨_, u, h₁, h₂⟩ := Res.andThen_eq_ok.mp h
  obtain ⟨_, v, h₃, h₄⟩ := Res.andThen_eq_ok.mp h₂
  obtain ⟨w, x, h₅, h₆⟩ := Res.andThen_eq_ok.mp h₄
  cases h₆
  exact ((((pushWord_frame h₁).trans (push_frame h₃)).trans (CpuFrame.setCpu v _)).trans (read16_frame h₅).1).trans
    (CpuFrame.setCpu x _)

theorem returnFromInterrupt_frame {s t : State} (h : returnFromInterrupt s = .ok () t) : CpuFrame s t := by
  rw [returnFromInterrupt_eq] at h
  cases h
  exact CpuFrame.setCpu s _

/-- The state just before the vector is read, as an equation (R213, R334). -/
theorem enterVector_eq (ret vector : Word) (b : Bool) (s : State) :
    enterVector ret b vector s =
      (read16 vector (((s.setRam (((s.ram.write (ramIndex (stackAddress s.cpu.sp)) (hiByte ret)).write
        (ramIndex (stackAddress (s.cpu.sp - 1))) (loByte ret)).write (ramIndex (stackAddress (s.cpu.sp - 1 - 1)))
          (s.cpu.flags.pack b))).setSp (s.cpu.sp - 1 - 1 - 1)).setI true)).andThen
            fun pc w => .ok () (w.setPc pc) := by
  rw [enterVector, pushWord_eq, Res.andThen_ok, push_eq]
  rfl

/-- Reading a vector and loading the PC from it, as an outcome (R71, R75). -/
theorem vector_outcome {u : State} {v : Word} (h : 0x401F < v.toNat) (h' : 0x401F < (v + 1).toNat)
    (last : State → State) :
    ((read16 v u).andThen fun pc w => .ok () (last (w.setPc pc))).toOutcome = throughVector u v last := by
  simp only [read16, throughVector]
  cases hl : plainRead u v with
  | none => rw [memRead_silent h hl]; rfl
  | some lo =>
    rw [memRead_plain hl, Res.andThen_ok]
    cases hh : plainRead u (v + 1) with
    | none => rw [memRead_silent h' hh]; rfl
    | some hi => rw [memRead_plain hh]; rfl

end Sys2Proof.Machine
end

