-- ==== Sys2Proof/Laws/Exec.lean ====
section
/-! SUPPORT. What an instruction can do: `exec` as one action per mnemonic over the resolved operand, and its frame. -/

namespace Sys2Proof.Machine

/-- The action of a mnemonic on a resolved operand, for reasoning by mnemonic; the undefined rows, which `exec_eq` leaves
out, stand as one raise. -/
def actionOf : Mnemonic → Resolved → State → Res Unit
  | .brk => brk
  | .ora => ora
  | .undefined => fun _ s => undefinedOpcode 0 s
  | .slo => slo
  | .nop => nop
  | .asl => asl
  | .php => php
  | .bpl => bpl
  | .clc => clc
  | .jsr => jsr
  | .and => andAcc
  | .rla => rla
  | .bit => bitTest
  | .rol => rol
  | .plp => plp
  | .bmi => bmi
  | .sec => sec
  | .rti => rti
  | .eor => eor
  | .sre => sre
  | .lsr => lsr
  | .pha => pha
  | .jmp => jmp
  | .bvc => bvc
  | .cli => cli
  | .rts => rts
  | .adc => adc
  | .rra => rra
  | .ror => ror
  | .pla => pla
  | .bvs => bvs
  | .sei => sei
  | .sta => sta
  | .sax => sax
  | .sty => sty
  | .stx => stx
  | .dey => dey
  | .txa => txa
  | .bcc => bcc
  | .tya => tya
  | .txs => txs
  | .ldy => ldy
  | .lda => lda
  | .ldx => ldx
  | .lax => lax
  | .tay => tay
  | .tax => tax
  | .bcs => bcs
  | .clv => clv
  | .tsx => tsx
  | .cpy => cpy
  | .cmp => cmp
  | .dcp => dcp
  | .dec => dec
  | .iny => iny
  | .dex => dex
  | .bne => bne
  | .cld => cld
  | .cpx => cpx
  | .sbc => sbc
  | .isb => isb
  | .inc => inc
  | .inx => inx
  | .beq => beq
  | .sed => sed

/-- Every instruction that executes resolves its operand and then runs its mnemonic's action. -/
theorem exec_eq (i : Instr) (s : State) (h : i.mnemonic ≠ .undefined) :
    exec i s = perform i.operand (actionOf i.mnemonic) s := by
  cases i <;> first | rfl | exact absurd rfl h

/-- An instruction whose mnemonic and resolved operand are known. -/
theorem exec_of {i : Instr} {m : Mnemonic} {s u t : State} {r : Resolved} (hm : i.mnemonic = m) (hu : m ≠ .undefined)
    (h : resolve i.operand s = .ok r u) (hb : actionOf m r u = .ok () t) : exec i s = .next t := by
  subst hm
  rw [exec_eq i s hu]
  exact perform_of_ok h hb

/-- The undefined rows fault, whatever the state (R106). -/
theorem exec_undefined (i : Instr) (s : State) (h : i.mnemonic = .undefined) :
    exec i s = .fault (.fatal (.undefinedOpcode i.opcode (s.cpu.pc - 1))
      (s.halt (.undefinedOpcode i.opcode (s.cpu.pc - 1)))) := by
  cases i <;> first | rfl | exact Mnemonic.noConfusion h

theorem branch_frame {c : Bool} {r : Resolved} {s t : State} (h : branch c r s = .ok () t) : CpuFrame s t := by
  cases r <;> simp only [branch] at h
  case addr a =>
    cases h
    cases c
    · exact CpuFrame.setTaken s false
    · exact (CpuFrame.setCpu s _).trans (CpuFrame.setTaken _ true)
  all_goals (cases h; exact CpuFrame.refl s)

theorem jmp_frame {r : Resolved} {s t : State} (h : jmp r s = .ok () t) : CpuFrame s t := by
  cases r <;> simp only [jmp] at h <;> cases h
  case addr a => exact CpuFrame.setCpu s _
  all_goals exact CpuFrame.refl s

/-- Every action is on the CPU's side. -/
theorem actionOf_frame {m : Mnemonic} {r : Resolved} {s t : State} (h : actionOf m r s = .ok () t) : CpuFrame s t := by
  have cpu := CpuFrame.setCpu
  have id' : ∀ s, CpuFrame s s := CpuFrame.refl
  cases m
  case undefined => cases h
  case brk => exact enterVector_frame h
  case rti => exact returnFromInterrupt_frame h
  case jmp => exact jmp_frame h
  case jsr =>
    obtain ⟨_, u, h₁, h₂⟩ := Res.andThen_eq_ok.mp h
    exact (pushWord_frame h₁).trans (jmp_frame h₂)
  case rts =>
    obtain ⟨w, u, h₁, h₂⟩ := Res.andThen_eq_ok.mp h
    cases h₂
    exact (pullWord_frame h₁).trans (cpu u _)
  case pha => exact push_frame h
  case php => exact push_frame h
  case pla =>
    obtain ⟨w, u, h₁, h₂⟩ := Res.andThen_eq_ok.mp h
    cases h₂
    exact (pull_frame h₁).trans (cpu u _)
  case plp =>
    obtain ⟨w, u, h₁, h₂⟩ := Res.andThen_eq_ok.mp h
    cases h₂
    exact (pull_frame h₁).trans (cpu u _)
  case bpl | bmi | bvc | bvs | bcc | bcs | bne | beq => exact branch_frame h
  case sta | stx | sty | sax => exact storeOperand_frame h
  case asl | lsr | rol | ror | inc | dec | slo | rla | sre | rra | dcp | isb =>
    simp only [actionOf, asl, lsr, rol, ror, inc, dec, slo, rla, sre, rra, dcp, isb] at h
    refine rmw_frame ?_ ?_ h
    · intro m s; first | exact id' s | exact cpu s _
    · intro m s; exact cpu s _
  case lda | ldx | ldy | lax | adc | sbc | and | ora | eor | cmp | cpx | cpy | bit =>
    obtain ⟨w, u, h₁, h₂⟩ := Res.andThen_eq_ok.mp h
    cases h₂
    exact (loadOperand_frame h₁).1.trans (cpu u _)
  case nop => cases h; exact id' _
  all_goals (cases h; exact cpu _ _)

/-- Every instruction is on the CPU's side. -/
theorem exec_frame {i : Instr} {s t : State} (h : exec i s = .next t) : CpuFrame s t := by
  by_cases hu : i.mnemonic = .undefined
  · rw [exec_undefined i s hu] at h
    cases h
  · rw [exec_eq i s hu, perform_eq_next] at h
    obtain ⟨r, u, h₁, h₂⟩ := h
    exact (resolve_frame h₁).1.trans (actionOf_frame h₂)

/-! ## The latches -/

/-- No instruction writes `reset_pending` or `nmi_pending`, and none but RTI writes `servicing`, which it clears (R30). -/
structure LatchFrame (s t : State) : Prop where
  reset : t.cpu.resetPending = s.cpu.resetPending
  nmi : t.cpu.nmiPending = s.cpu.nmiPending
  servicing : t.cpu.servicing = true → s.cpu.servicing = true

theorem LatchFrame.refl (s : State) : LatchFrame s s := ⟨rfl, rfl, id⟩

theorem LatchFrame.trans {s t u : State} (h : LatchFrame s t) (k : LatchFrame t u) : LatchFrame s u :=
  ⟨k.reset.trans h.reset, k.nmi.trans h.nmi, fun m => h.servicing (k.servicing m)⟩

theorem LatchFrame.of_cpu {s t : State} (h : t.cpu = s.cpu) : LatchFrame s t := by
  constructor <;> simp [h]

theorem push_latches {v : Byte} {s t : State} (h : push v s = .ok () t) : LatchFrame s t := by
  rw [push_eq] at h
  cases h
  exact ⟨rfl, rfl, id⟩

theorem pushWord_latches {w : Word} {s t : State} (h : pushWord w s = .ok () t) : LatchFrame s t := by
  rw [pushWord_eq] at h
  cases h
  exact ⟨rfl, rfl, id⟩

theorem enterVector_latches {ret vector : Word} {b : Bool} {s t : State} (h : enterVector ret b vector s = .ok () t) :
    LatchFrame s t := by
  rw [enterVector_eq] at h
  obtain ⟨w, u, h₁, h₂⟩ := Res.andThen_eq_ok.mp h
  cases h₂
  have e := (read16_frame h₁).2.1
  exact LatchFrame.trans (s := s) (t := u) ⟨by rw [e]; rfl, by rw [e]; rfl, by rw [e]; exact id⟩ ⟨rfl, rfl, id⟩

theorem storeOperand_latches {r : Resolved} {v : Byte} {s t : State} (h : storeOperand r v s = .ok () t) :
    LatchFrame s t := by
  cases r <;> simp only [storeOperand] at h
  case none => cases h; exact ⟨rfl, rfl, id⟩
  case imm => cases h; exact LatchFrame.refl s
  case addr a => exact LatchFrame.of_cpu (memWrite_cpu h)

theorem rmw_latches {result : Byte → State → Byte} {before after : Byte → State → State}
    (hb : ∀ m s, LatchFrame s (before m s)) (ha : ∀ m s, LatchFrame s (after m s)) {r : Resolved} {s t : State}
    (h : rmw result before after r s = .ok () t) : LatchFrame s t := by
  obtain ⟨m, u, h₁, h₂⟩ := Res.andThen_eq_ok.mp h
  obtain ⟨_, v, h₃, h₄⟩ := Res.andThen_eq_ok.mp h₂
  cases h₄
  exact (((LatchFrame.of_cpu (loadOperand_frame h₁).2.1).trans (hb _ _)).trans (storeOperand_latches h₃)).trans (ha _ _)

theorem actionOf_latches {m : Mnemonic} {r : Resolved} {s t : State} (h : actionOf m r s = .ok () t) :
    LatchFrame s t := by
  cases m
  case undefined => cases h
  case brk => exact enterVector_latches h
  case rti =>
    simp only [actionOf, rti, returnFromInterrupt_eq] at h
    cases h
    exact ⟨rfl, rfl, fun k => by simp at k⟩
  case jmp => cases r <;> simp only [actionOf, jmp] at h <;> cases h <;> exact ⟨rfl, rfl, id⟩
  case jsr =>
    obtain ⟨_, u, h₁, h₂⟩ := Res.andThen_eq_ok.mp h
    refine (pushWord_latches h₁).trans ?_
    cases r <;> simp only [jmp] at h₂ <;> cases h₂ <;> exact ⟨rfl, rfl, id⟩
  case rts => simp only [actionOf, rts, pullWord_eq] at h; cases h; exact ⟨rfl, rfl, id⟩
  case pha => exact push_latches h
  case php => exact push_latches h
  case pla => simp only [actionOf, pla, pull_eq] at h; cases h; exact ⟨rfl, rfl, id⟩
  case plp => simp only [actionOf, plp, pull_eq] at h; cases h; exact ⟨rfl, rfl, id⟩
  case bpl | bmi | bvc | bvs | bcc | bcs | bne | beq =>
    simp only [actionOf, bpl, bmi, bvc, bvs, bcc, bcs, bne, beq, branch] at h
    cases r <;> simp only [] at h
    · cases h; exact LatchFrame.refl _
    · cases h; exact LatchFrame.refl _
    · cases h; split <;> exact ⟨rfl, rfl, id⟩
  case sta | stx | sty | sax => exact storeOperand_latches h
  case asl | lsr | rol | ror | inc | dec | slo | rla | sre | rra | dcp | isb =>
    simp only [actionOf, asl, lsr, rol, ror, inc, dec, slo, rla, sre, rra, dcp, isb] at h
    refine rmw_latches ?_ ?_ h <;> (intro m s; exact ⟨rfl, rfl, id⟩)
  case lda | ldx | ldy | lax | adc | sbc | and | ora | eor | cmp | cpx | cpy | bit =>
    obtain ⟨w, u, h₁, h₂⟩ := Res.andThen_eq_ok.mp h
    cases h₂
    exact (LatchFrame.of_cpu (loadOperand_frame h₁).2.1).trans ⟨rfl, rfl, id⟩
  all_goals (cases h; exact ⟨rfl, rfl, id⟩)

theorem exec_latches {i : Instr} {s t : State} (h : exec i s = .next t) : LatchFrame s t := by
  by_cases hu : i.mnemonic = .undefined
  · rw [exec_undefined i s hu] at h
    cases h
  · rw [exec_eq i s hu, perform_eq_next] at h
    obtain ⟨r, u, h₁, h₂⟩ := h
    exact (LatchFrame.of_cpu (resolve_frame h₁).2.1).trans (actionOf_latches h₂)

end Sys2Proof.Machine
end

