-- ==== Sys2Proof/Laws/PerInstr.lean ====
section
/-! SUPPORT. Statements about every instruction, one lemma per constructor (LAWS.json). -/

namespace Sys2Proof.Laws.EncodedLength

/-- An instruction is as long as its opcode byte says (30_encoding.md R100, R103). -/
def Statement (i : Instr) : Prop := (encode i).length = operandBytes i.opcode + 1

theorem of_opcode {i : Instr} (op : Byte) (ho : i.opcode = op) (hl : (encode i).length = operandBytes op + 1) :
    Statement i := by
  subst ho
  exact hl

theorem brk : Statement .brk := of_opcode 0x00 rfl rfl
theorem oraIndx (a : Byte) : Statement (.oraIndx a) := of_opcode 0x01 rfl rfl
theorem undef02 : Statement .undef02 := of_opcode 0x02 rfl rfl
theorem sloIndx (a : Byte) : Statement (.sloIndx a) := of_opcode 0x03 rfl rfl
theorem nopZp04 (a : Byte) : Statement (.nopZp04 a) := of_opcode 0x04 rfl rfl
theorem oraZp (a : Byte) : Statement (.oraZp a) := of_opcode 0x05 rfl rfl
theorem aslZp (a : Byte) : Statement (.aslZp a) := of_opcode 0x06 rfl rfl
theorem sloZp (a : Byte) : Statement (.sloZp a) := of_opcode 0x07 rfl rfl
theorem php : Statement .php := of_opcode 0x08 rfl rfl
theorem oraImm (i : Byte) : Statement (.oraImm i) := of_opcode 0x09 rfl rfl
theorem aslAcc : Statement .aslAcc := of_opcode 0x0A rfl rfl
theorem undef0B : Statement .undef0B := of_opcode 0x0B rfl rfl
theorem nopAbs0C (l h : Byte) : Statement (.nopAbs0C l h) := of_opcode 0x0C rfl rfl
theorem oraAbs (l h : Byte) : Statement (.oraAbs l h) := of_opcode 0x0D rfl rfl
theorem aslAbs (l h : Byte) : Statement (.aslAbs l h) := of_opcode 0x0E rfl rfl
theorem sloAbs (l h : Byte) : Statement (.sloAbs l h) := of_opcode 0x0F rfl rfl
theorem bplRel (o : Byte) : Statement (.bplRel o) := of_opcode 0x10 rfl rfl
theorem oraIndy (a : Byte) : Statement (.oraIndy a) := of_opcode 0x11 rfl rfl
theorem undef12 : Statement .undef12 := of_opcode 0x12 rfl rfl
theorem sloIndy (a : Byte) : Statement (.sloIndy a) := of_opcode 0x13 rfl rfl
theorem nopZpx14 (a : Byte) : Statement (.nopZpx14 a) := of_opcode 0x14 rfl rfl
theorem oraZpx (a : Byte) : Statement (.oraZpx a) := of_opcode 0x15 rfl rfl
theorem aslZpx (a : Byte) : Statement (.aslZpx a) := of_opcode 0x16 rfl rfl
theorem sloZpx (a : Byte) : Statement (.sloZpx a) := of_opcode 0x17 rfl rfl
theorem clc : Statement .clc := of_opcode 0x18 rfl rfl
theorem oraAbsy (l h : Byte) : Statement (.oraAbsy l h) := of_opcode 0x19 rfl rfl
theorem nopImp1A : Statement .nopImp1A := of_opcode 0x1A rfl rfl
theorem sloAbsy (l h : Byte) : Statement (.sloAbsy l h) := of_opcode 0x1B rfl rfl
theorem nopAbsx1C (l h : Byte) : Statement (.nopAbsx1C l h) := of_opcode 0x1C rfl rfl
theorem oraAbsx (l h : Byte) : Statement (.oraAbsx l h) := of_opcode 0x1D rfl rfl
theorem aslAbsx (l h : Byte) : Statement (.aslAbsx l h) := of_opcode 0x1E rfl rfl
theorem sloAbsx (l h : Byte) : Statement (.sloAbsx l h) := of_opcode 0x1F rfl rfl
theorem jsrAbs (l h : Byte) : Statement (.jsrAbs l h) := of_opcode 0x20 rfl rfl
theorem andIndx (a : Byte) : Statement (.andIndx a) := of_opcode 0x21 rfl rfl
theorem undef22 : Statement .undef22 := of_opcode 0x22 rfl rfl
theorem rlaIndx (a : Byte) : Statement (.rlaIndx a) := of_opcode 0x23 rfl rfl
theorem bitZp (a : Byte) : Statement (.bitZp a) := of_opcode 0x24 rfl rfl
theorem andZp (a : Byte) : Statement (.andZp a) := of_opcode 0x25 rfl rfl
theorem rolZp (a : Byte) : Statement (.rolZp a) := of_opcode 0x26 rfl rfl
theorem rlaZp (a : Byte) : Statement (.rlaZp a) := of_opcode 0x27 rfl rfl
theorem plp : Statement .plp := of_opcode 0x28 rfl rfl
theorem andImm (i : Byte) : Statement (.andImm i) := of_opcode 0x29 rfl rfl
theorem rolAcc : Statement .rolAcc := of_opcode 0x2A rfl rfl
theorem undef2B : Statement .undef2B := of_opcode 0x2B rfl rfl
theorem bitAbs (l h : Byte) : Statement (.bitAbs l h) := of_opcode 0x2C rfl rfl
theorem andAbs (l h : Byte) : Statement (.andAbs l h) := of_opcode 0x2D rfl rfl
theorem rolAbs (l h : Byte) : Statement (.rolAbs l h) := of_opcode 0x2E rfl rfl
theorem rlaAbs (l h : Byte) : Statement (.rlaAbs l h) := of_opcode 0x2F rfl rfl
theorem bmiRel (o : Byte) : Statement (.bmiRel o) := of_opcode 0x30 rfl rfl
theorem andIndy (a : Byte) : Statement (.andIndy a) := of_opcode 0x31 rfl rfl
theorem undef32 : Statement .undef32 := of_opcode 0x32 rfl rfl
theorem rlaIndy (a : Byte) : Statement (.rlaIndy a) := of_opcode 0x33 rfl rfl
theorem nopZpx34 (a : Byte) : Statement (.nopZpx34 a) := of_opcode 0x34 rfl rfl
theorem andZpx (a : Byte) : Statement (.andZpx a) := of_opcode 0x35 rfl rfl
theorem rolZpx (a : Byte) : Statement (.rolZpx a) := of_opcode 0x36 rfl rfl
theorem rlaZpx (a : Byte) : Statement (.rlaZpx a) := of_opcode 0x37 rfl rfl
theorem sec : Statement .sec := of_opcode 0x38 rfl rfl
theorem andAbsy (l h : Byte) : Statement (.andAbsy l h) := of_opcode 0x39 rfl rfl
theorem nopImp3A : Statement .nopImp3A := of_opcode 0x3A rfl rfl
theorem rlaAbsy (l h : Byte) : Statement (.rlaAbsy l h) := of_opcode 0x3B rfl rfl
theorem nopAbsx3C (l h : Byte) : Statement (.nopAbsx3C l h) := of_opcode 0x3C rfl rfl
theorem andAbsx (l h : Byte) : Statement (.andAbsx l h) := of_opcode 0x3D rfl rfl
theorem rolAbsx (l h : Byte) : Statement (.rolAbsx l h) := of_opcode 0x3E rfl rfl
theorem rlaAbsx (l h : Byte) : Statement (.rlaAbsx l h) := of_opcode 0x3F rfl rfl
theorem rti : Statement .rti := of_opcode 0x40 rfl rfl
theorem eorIndx (a : Byte) : Statement (.eorIndx a) := of_opcode 0x41 rfl rfl
theorem undef42 : Statement .undef42 := of_opcode 0x42 rfl rfl
theorem sreIndx (a : Byte) : Statement (.sreIndx a) := of_opcode 0x43 rfl rfl
theorem nopZp44 (a : Byte) : Statement (.nopZp44 a) := of_opcode 0x44 rfl rfl
theorem eorZp (a : Byte) : Statement (.eorZp a) := of_opcode 0x45 rfl rfl
theorem lsrZp (a : Byte) : Statement (.lsrZp a) := of_opcode 0x46 rfl rfl
theorem sreZp (a : Byte) : Statement (.sreZp a) := of_opcode 0x47 rfl rfl
theorem pha : Statement .pha := of_opcode 0x48 rfl rfl
theorem eorImm (i : Byte) : Statement (.eorImm i) := of_opcode 0x49 rfl rfl
theorem lsrAcc : Statement .lsrAcc := of_opcode 0x4A rfl rfl
theorem undef4B : Statement .undef4B := of_opcode 0x4B rfl rfl
theorem jmpAbs (l h : Byte) : Statement (.jmpAbs l h) := of_opcode 0x4C rfl rfl
theorem eorAbs (l h : Byte) : Statement (.eorAbs l h) := of_opcode 0x4D rfl rfl
theorem lsrAbs (l h : Byte) : Statement (.lsrAbs l h) := of_opcode 0x4E rfl rfl
theorem sreAbs (l h : Byte) : Statement (.sreAbs l h) := of_opcode 0x4F rfl rfl
theorem bvcRel (o : Byte) : Statement (.bvcRel o) := of_opcode 0x50 rfl rfl
theorem eorIndy (a : Byte) : Statement (.eorIndy a) := of_opcode 0x51 rfl rfl
theorem undef52 : Statement .undef52 := of_opcode 0x52 rfl rfl
theorem sreIndy (a : Byte) : Statement (.sreIndy a) := of_opcode 0x53 rfl rfl
theorem nopZpx54 (a : Byte) : Statement (.nopZpx54 a) := of_opcode 0x54 rfl rfl
theorem eorZpx (a : Byte) : Statement (.eorZpx a) := of_opcode 0x55 rfl rfl
theorem lsrZpx (a : Byte) : Statement (.lsrZpx a) := of_opcode 0x56 rfl rfl
theorem sreZpx (a : Byte) : Statement (.sreZpx a) := of_opcode 0x57 rfl rfl
theorem cli : Statement .cli := of_opcode 0x58 rfl rfl
theorem eorAbsy (l h : Byte) : Statement (.eorAbsy l h) := of_opcode 0x59 rfl rfl
theorem nopImp5A : Statement .nopImp5A := of_opcode 0x5A rfl rfl
theorem sreAbsy (l h : Byte) : Statement (.sreAbsy l h) := of_opcode 0x5B rfl rfl
theorem nopAbsx5C (l h : Byte) : Statement (.nopAbsx5C l h) := of_opcode 0x5C rfl rfl
theorem eorAbsx (l h : Byte) : Statement (.eorAbsx l h) := of_opcode 0x5D rfl rfl
theorem lsrAbsx (l h : Byte) : Statement (.lsrAbsx l h) := of_opcode 0x5E rfl rfl
theorem sreAbsx (l h : Byte) : Statement (.sreAbsx l h) := of_opcode 0x5F rfl rfl
theorem rts : Statement .rts := of_opcode 0x60 rfl rfl
theorem adcIndx (a : Byte) : Statement (.adcIndx a) := of_opcode 0x61 rfl rfl
theorem undef62 : Statement .undef62 := of_opcode 0x62 rfl rfl
theorem rraIndx (a : Byte) : Statement (.rraIndx a) := of_opcode 0x63 rfl rfl
theorem nopZp64 (a : Byte) : Statement (.nopZp64 a) := of_opcode 0x64 rfl rfl
theorem adcZp (a : Byte) : Statement (.adcZp a) := of_opcode 0x65 rfl rfl
theorem rorZp (a : Byte) : Statement (.rorZp a) := of_opcode 0x66 rfl rfl
theorem rraZp (a : Byte) : Statement (.rraZp a) := of_opcode 0x67 rfl rfl
theorem pla : Statement .pla := of_opcode 0x68 rfl rfl
theorem adcImm (i : Byte) : Statement (.adcImm i) := of_opcode 0x69 rfl rfl
theorem rorAcc : Statement .rorAcc := of_opcode 0x6A rfl rfl
theorem undef6B : Statement .undef6B := of_opcode 0x6B rfl rfl
theorem jmpInd (l h : Byte) : Statement (.jmpInd l h) := of_opcode 0x6C rfl rfl
theorem adcAbs (l h : Byte) : Statement (.adcAbs l h) := of_opcode 0x6D rfl rfl
theorem rorAbs (l h : Byte) : Statement (.rorAbs l h) := of_opcode 0x6E rfl rfl
theorem rraAbs (l h : Byte) : Statement (.rraAbs l h) := of_opcode 0x6F rfl rfl
theorem bvsRel (o : Byte) : Statement (.bvsRel o) := of_opcode 0x70 rfl rfl
theorem adcIndy (a : Byte) : Statement (.adcIndy a) := of_opcode 0x71 rfl rfl
theorem undef72 : Statement .undef72 := of_opcode 0x72 rfl rfl
theorem rraIndy (a : Byte) : Statement (.rraIndy a) := of_opcode 0x73 rfl rfl
theorem nopZpx74 (a : Byte) : Statement (.nopZpx74 a) := of_opcode 0x74 rfl rfl
theorem adcZpx (a : Byte) : Statement (.adcZpx a) := of_opcode 0x75 rfl rfl
theorem rorZpx (a : Byte) : Statement (.rorZpx a) := of_opcode 0x76 rfl rfl
theorem rraZpx (a : Byte) : Statement (.rraZpx a) := of_opcode 0x77 rfl rfl
theorem sei : Statement .sei := of_opcode 0x78 rfl rfl
theorem adcAbsy (l h : Byte) : Statement (.adcAbsy l h) := of_opcode 0x79 rfl rfl
theorem nopImp7A : Statement .nopImp7A := of_opcode 0x7A rfl rfl
theorem rraAbsy (l h : Byte) : Statement (.rraAbsy l h) := of_opcode 0x7B rfl rfl
theorem nopAbsx7C (l h : Byte) : Statement (.nopAbsx7C l h) := of_opcode 0x7C rfl rfl
theorem adcAbsx (l h : Byte) : Statement (.adcAbsx l h) := of_opcode 0x7D rfl rfl
theorem rorAbsx (l h : Byte) : Statement (.rorAbsx l h) := of_opcode 0x7E rfl rfl
theorem rraAbsx (l h : Byte) : Statement (.rraAbsx l h) := of_opcode 0x7F rfl rfl
theorem nopImm80 (i : Byte) : Statement (.nopImm80 i) := of_opcode 0x80 rfl rfl
theorem staIndx (a : Byte) : Statement (.staIndx a) := of_opcode 0x81 rfl rfl
theorem nopImm82 (i : Byte) : Statement (.nopImm82 i) := of_opcode 0x82 rfl rfl
theorem saxIndx (a : Byte) : Statement (.saxIndx a) := of_opcode 0x83 rfl rfl
theorem styZp (a : Byte) : Statement (.styZp a) := of_opcode 0x84 rfl rfl
theorem staZp (a : Byte) : Statement (.staZp a) := of_opcode 0x85 rfl rfl
theorem stxZp (a : Byte) : Statement (.stxZp a) := of_opcode 0x86 rfl rfl
theorem saxZp (a : Byte) : Statement (.saxZp a) := of_opcode 0x87 rfl rfl
theorem dey : Statement .dey := of_opcode 0x88 rfl rfl
theorem nopImm89 (i : Byte) : Statement (.nopImm89 i) := of_opcode 0x89 rfl rfl
theorem txa : Statement .txa := of_opcode 0x8A rfl rfl
theorem undef8B : Statement .undef8B := of_opcode 0x8B rfl rfl
theorem styAbs (l h : Byte) : Statement (.styAbs l h) := of_opcode 0x8C rfl rfl
theorem staAbs (l h : Byte) : Statement (.staAbs l h) := of_opcode 0x8D rfl rfl
theorem stxAbs (l h : Byte) : Statement (.stxAbs l h) := of_opcode 0x8E rfl rfl
theorem saxAbs (l h : Byte) : Statement (.saxAbs l h) := of_opcode 0x8F rfl rfl
theorem bccRel (o : Byte) : Statement (.bccRel o) := of_opcode 0x90 rfl rfl
theorem staIndy (a : Byte) : Statement (.staIndy a) := of_opcode 0x91 rfl rfl
theorem undef92 : Statement .undef92 := of_opcode 0x92 rfl rfl
theorem undef93 : Statement .undef93 := of_opcode 0x93 rfl rfl
theorem styZpx (a : Byte) : Statement (.styZpx a) := of_opcode 0x94 rfl rfl
theorem staZpx (a : Byte) : Statement (.staZpx a) := of_opcode 0x95 rfl rfl
theorem stxZpy (a : Byte) : Statement (.stxZpy a) := of_opcode 0x96 rfl rfl
theorem saxZpy (a : Byte) : Statement (.saxZpy a) := of_opcode 0x97 rfl rfl
theorem tya : Statement .tya := of_opcode 0x98 rfl rfl
theorem staAbsy (l h : Byte) : Statement (.staAbsy l h) := of_opcode 0x99 rfl rfl
theorem txs : Statement .txs := of_opcode 0x9A rfl rfl
theorem undef9B : Statement .undef9B := of_opcode 0x9B rfl rfl
theorem undef9C : Statement .undef9C := of_opcode 0x9C rfl rfl
theorem staAbsx (l h : Byte) : Statement (.staAbsx l h) := of_opcode 0x9D rfl rfl
theorem undef9E : Statement .undef9E := of_opcode 0x9E rfl rfl
theorem undef9F : Statement .undef9F := of_opcode 0x9F rfl rfl
theorem ldyImm (i : Byte) : Statement (.ldyImm i) := of_opcode 0xA0 rfl rfl
theorem ldaIndx (a : Byte) : Statement (.ldaIndx a) := of_opcode 0xA1 rfl rfl
theorem ldxImm (i : Byte) : Statement (.ldxImm i) := of_opcode 0xA2 rfl rfl
theorem laxIndx (a : Byte) : Statement (.laxIndx a) := of_opcode 0xA3 rfl rfl
theorem ldyZp (a : Byte) : Statement (.ldyZp a) := of_opcode 0xA4 rfl rfl
theorem ldaZp (a : Byte) : Statement (.ldaZp a) := of_opcode 0xA5 rfl rfl
theorem ldxZp (a : Byte) : Statement (.ldxZp a) := of_opcode 0xA6 rfl rfl
theorem laxZp (a : Byte) : Statement (.laxZp a) := of_opcode 0xA7 rfl rfl
theorem tay : Statement .tay := of_opcode 0xA8 rfl rfl
theorem ldaImm (i : Byte) : Statement (.ldaImm i) := of_opcode 0xA9 rfl rfl
theorem tax : Statement .tax := of_opcode 0xAA rfl rfl
theorem undefAB : Statement .undefAB := of_opcode 0xAB rfl rfl
theorem ldyAbs (l h : Byte) : Statement (.ldyAbs l h) := of_opcode 0xAC rfl rfl
theorem ldaAbs (l h : Byte) : Statement (.ldaAbs l h) := of_opcode 0xAD rfl rfl
theorem ldxAbs (l h : Byte) : Statement (.ldxAbs l h) := of_opcode 0xAE rfl rfl
theorem laxAbs (l h : Byte) : Statement (.laxAbs l h) := of_opcode 0xAF rfl rfl
theorem bcsRel (o : Byte) : Statement (.bcsRel o) := of_opcode 0xB0 rfl rfl
theorem ldaIndy (a : Byte) : Statement (.ldaIndy a) := of_opcode 0xB1 rfl rfl
theorem undefB2 : Statement .undefB2 := of_opcode 0xB2 rfl rfl
theorem laxIndy (a : Byte) : Statement (.laxIndy a) := of_opcode 0xB3 rfl rfl
theorem ldyZpx (a : Byte) : Statement (.ldyZpx a) := of_opcode 0xB4 rfl rfl
theorem ldaZpx (a : Byte) : Statement (.ldaZpx a) := of_opcode 0xB5 rfl rfl
theorem ldxZpy (a : Byte) : Statement (.ldxZpy a) := of_opcode 0xB6 rfl rfl
theorem laxZpy (a : Byte) : Statement (.laxZpy a) := of_opcode 0xB7 rfl rfl
theorem clv : Statement .clv := of_opcode 0xB8 rfl rfl
theorem ldaAbsy (l h : Byte) : Statement (.ldaAbsy l h) := of_opcode 0xB9 rfl rfl
theorem tsx : Statement .tsx := of_opcode 0xBA rfl rfl
theorem undefBB : Statement .undefBB := of_opcode 0xBB rfl rfl
theorem ldyAbsx (l h : Byte) : Statement (.ldyAbsx l h) := of_opcode 0xBC rfl rfl
theorem ldaAbsx (l h : Byte) : Statement (.ldaAbsx l h) := of_opcode 0xBD rfl rfl
theorem ldxAbsy (l h : Byte) : Statement (.ldxAbsy l h) := of_opcode 0xBE rfl rfl
theorem laxAbsy (l h : Byte) : Statement (.laxAbsy l h) := of_opcode 0xBF rfl rfl
theorem cpyImm (i : Byte) : Statement (.cpyImm i) := of_opcode 0xC0 rfl rfl
theorem cmpIndx (a : Byte) : Statement (.cmpIndx a) := of_opcode 0xC1 rfl rfl
theorem nopImmC2 (i : Byte) : Statement (.nopImmC2 i) := of_opcode 0xC2 rfl rfl
theorem dcpIndx (a : Byte) : Statement (.dcpIndx a) := of_opcode 0xC3 rfl rfl
theorem cpyZp (a : Byte) : Statement (.cpyZp a) := of_opcode 0xC4 rfl rfl
theorem cmpZp (a : Byte) : Statement (.cmpZp a) := of_opcode 0xC5 rfl rfl
theorem decZp (a : Byte) : Statement (.decZp a) := of_opcode 0xC6 rfl rfl
theorem dcpZp (a : Byte) : Statement (.dcpZp a) := of_opcode 0xC7 rfl rfl
theorem iny : Statement .iny := of_opcode 0xC8 rfl rfl
theorem cmpImm (i : Byte) : Statement (.cmpImm i) := of_opcode 0xC9 rfl rfl
theorem dex : Statement .dex := of_opcode 0xCA rfl rfl
theorem undefCB : Statement .undefCB := of_opcode 0xCB rfl rfl
theorem cpyAbs (l h : Byte) : Statement (.cpyAbs l h) := of_opcode 0xCC rfl rfl
theorem cmpAbs (l h : Byte) : Statement (.cmpAbs l h) := of_opcode 0xCD rfl rfl
theorem decAbs (l h : Byte) : Statement (.decAbs l h) := of_opcode 0xCE rfl rfl
theorem dcpAbs (l h : Byte) : Statement (.dcpAbs l h) := of_opcode 0xCF rfl rfl
theorem bneRel (o : Byte) : Statement (.bneRel o) := of_opcode 0xD0 rfl rfl
theorem cmpIndy (a : Byte) : Statement (.cmpIndy a) := of_opcode 0xD1 rfl rfl
theorem undefD2 : Statement .undefD2 := of_opcode 0xD2 rfl rfl
theorem dcpIndy (a : Byte) : Statement (.dcpIndy a) := of_opcode 0xD3 rfl rfl
theorem nopZpxD4 (a : Byte) : Statement (.nopZpxD4 a) := of_opcode 0xD4 rfl rfl
theorem cmpZpx (a : Byte) : Statement (.cmpZpx a) := of_opcode 0xD5 rfl rfl
theorem decZpx (a : Byte) : Statement (.decZpx a) := of_opcode 0xD6 rfl rfl
theorem dcpZpx (a : Byte) : Statement (.dcpZpx a) := of_opcode 0xD7 rfl rfl
theorem cld : Statement .cld := of_opcode 0xD8 rfl rfl
theorem cmpAbsy (l h : Byte) : Statement (.cmpAbsy l h) := of_opcode 0xD9 rfl rfl
theorem nopImpDA : Statement .nopImpDA := of_opcode 0xDA rfl rfl
theorem dcpAbsy (l h : Byte) : Statement (.dcpAbsy l h) := of_opcode 0xDB rfl rfl
theorem nopAbsxDC (l h : Byte) : Statement (.nopAbsxDC l h) := of_opcode 0xDC rfl rfl
theorem cmpAbsx (l h : Byte) : Statement (.cmpAbsx l h) := of_opcode 0xDD rfl rfl
theorem decAbsx (l h : Byte) : Statement (.decAbsx l h) := of_opcode 0xDE rfl rfl
theorem dcpAbsx (l h : Byte) : Statement (.dcpAbsx l h) := of_opcode 0xDF rfl rfl
theorem cpxImm (i : Byte) : Statement (.cpxImm i) := of_opcode 0xE0 rfl rfl
theorem sbcIndx (a : Byte) : Statement (.sbcIndx a) := of_opcode 0xE1 rfl rfl
theorem nopImmE2 (i : Byte) : Statement (.nopImmE2 i) := of_opcode 0xE2 rfl rfl
theorem isbIndx (a : Byte) : Statement (.isbIndx a) := of_opcode 0xE3 rfl rfl
theorem cpxZp (a : Byte) : Statement (.cpxZp a) := of_opcode 0xE4 rfl rfl
theorem sbcZp (a : Byte) : Statement (.sbcZp a) := of_opcode 0xE5 rfl rfl
theorem incZp (a : Byte) : Statement (.incZp a) := of_opcode 0xE6 rfl rfl
theorem isbZp (a : Byte) : Statement (.isbZp a) := of_opcode 0xE7 rfl rfl
theorem inx : Statement .inx := of_opcode 0xE8 rfl rfl
theorem sbcImm (i : Byte) : Statement (.sbcImm i) := of_opcode 0xE9 rfl rfl
theorem nop : Statement .nop := of_opcode 0xEA rfl rfl
theorem sbcImmEB (i : Byte) : Statement (.sbcImmEB i) := of_opcode 0xEB rfl rfl
theorem cpxAbs (l h : Byte) : Statement (.cpxAbs l h) := of_opcode 0xEC rfl rfl
theorem sbcAbs (l h : Byte) : Statement (.sbcAbs l h) := of_opcode 0xED rfl rfl
theorem incAbs (l h : Byte) : Statement (.incAbs l h) := of_opcode 0xEE rfl rfl
theorem isbAbs (l h : Byte) : Statement (.isbAbs l h) := of_opcode 0xEF rfl rfl
theorem beqRel (o : Byte) : Statement (.beqRel o) := of_opcode 0xF0 rfl rfl
theorem sbcIndy (a : Byte) : Statement (.sbcIndy a) := of_opcode 0xF1 rfl rfl
theorem undefF2 : Statement .undefF2 := of_opcode 0xF2 rfl rfl
theorem isbIndy (a : Byte) : Statement (.isbIndy a) := of_opcode 0xF3 rfl rfl
theorem nopZpxF4 (a : Byte) : Statement (.nopZpxF4 a) := of_opcode 0xF4 rfl rfl
theorem sbcZpx (a : Byte) : Statement (.sbcZpx a) := of_opcode 0xF5 rfl rfl
theorem incZpx (a : Byte) : Statement (.incZpx a) := of_opcode 0xF6 rfl rfl
theorem isbZpx (a : Byte) : Statement (.isbZpx a) := of_opcode 0xF7 rfl rfl
theorem sed : Statement .sed := of_opcode 0xF8 rfl rfl
theorem sbcAbsy (l h : Byte) : Statement (.sbcAbsy l h) := of_opcode 0xF9 rfl rfl
theorem nopImpFA : Statement .nopImpFA := of_opcode 0xFA rfl rfl
theorem isbAbsy (l h : Byte) : Statement (.isbAbsy l h) := of_opcode 0xFB rfl rfl
theorem nopAbsxFC (l h : Byte) : Statement (.nopAbsxFC l h) := of_opcode 0xFC rfl rfl
theorem sbcAbsx (l h : Byte) : Statement (.sbcAbsx l h) := of_opcode 0xFD rfl rfl
theorem incAbsx (l h : Byte) : Statement (.incAbsx l h) := of_opcode 0xFE rfl rfl
theorem isbAbsx (l h : Byte) : Statement (.isbAbsx l h) := of_opcode 0xFF rfl rfl

end Sys2Proof.Laws.EncodedLength

namespace Sys2Proof.Laws.OpcodeCell

/-- The opcode map's cell at an instruction's opcode byte makes that instruction of its operand bytes (R100, R101, R111). -/
def Statement (i : Instr) : Prop :=
  (mapCell i.opcode = .op0 i ∧ i.operand.bytes = []) ∨
  (∃ f b, mapCell i.opcode = .op1 f ∧ f b = i ∧ i.operand.bytes = [b]) ∨
  (∃ f l h, mapCell i.opcode = .op2 f ∧ f l h = i ∧ i.operand.bytes = [l, h])

theorem of0 {i : Instr} (op : Byte) (ho : i.opcode = op) (hc : mapCell op = .op0 i) (hb : i.operand.bytes = []) :
    Statement i := by
  subst ho
  exact .inl ⟨hc, hb⟩

theorem of1 {i : Instr} {b : Byte} (op : Byte) (f : Byte → Instr) (ho : i.opcode = op) (hc : mapCell op = .op1 f)
    (hf : f b = i) (hb : i.operand.bytes = [b]) : Statement i := by
  subst ho
  exact .inr (.inl ⟨f, b, hc, hf, hb⟩)

theorem of2 {i : Instr} {l h : Byte} (op : Byte) (f : Byte → Byte → Instr) (ho : i.opcode = op) (hc : mapCell op = .op2 f)
    (hf : f l h = i) (hb : i.operand.bytes = [l, h]) : Statement i := by
  subst ho
  exact .inr (.inr ⟨f, l, h, hc, hf, hb⟩)

theorem brk : Statement .brk := of0 0x00 rfl rfl rfl
theorem oraIndx (a : Byte) : Statement (.oraIndx a) := of1 0x01 .oraIndx rfl rfl rfl rfl
theorem undef02 : Statement .undef02 := of0 0x02 rfl rfl rfl
theorem sloIndx (a : Byte) : Statement (.sloIndx a) := of1 0x03 .sloIndx rfl rfl rfl rfl
theorem nopZp04 (a : Byte) : Statement (.nopZp04 a) := of1 0x04 .nopZp04 rfl rfl rfl rfl
theorem oraZp (a : Byte) : Statement (.oraZp a) := of1 0x05 .oraZp rfl rfl rfl rfl
theorem aslZp (a : Byte) : Statement (.aslZp a) := of1 0x06 .aslZp rfl rfl rfl rfl
theorem sloZp (a : Byte) : Statement (.sloZp a) := of1 0x07 .sloZp rfl rfl rfl rfl
theorem php : Statement .php := of0 0x08 rfl rfl rfl
theorem oraImm (i : Byte) : Statement (.oraImm i) := of1 0x09 .oraImm rfl rfl rfl rfl
theorem aslAcc : Statement .aslAcc := of0 0x0A rfl rfl rfl
theorem undef0B : Statement .undef0B := of0 0x0B rfl rfl rfl
theorem nopAbs0C (l h : Byte) : Statement (.nopAbs0C l h) := of2 0x0C .nopAbs0C rfl rfl rfl rfl
theorem oraAbs (l h : Byte) : Statement (.oraAbs l h) := of2 0x0D .oraAbs rfl rfl rfl rfl
theorem aslAbs (l h : Byte) : Statement (.aslAbs l h) := of2 0x0E .aslAbs rfl rfl rfl rfl
theorem sloAbs (l h : Byte) : Statement (.sloAbs l h) := of2 0x0F .sloAbs rfl rfl rfl rfl
theorem bplRel (o : Byte) : Statement (.bplRel o) := of1 0x10 .bplRel rfl rfl rfl rfl
theorem oraIndy (a : Byte) : Statement (.oraIndy a) := of1 0x11 .oraIndy rfl rfl rfl rfl
theorem undef12 : Statement .undef12 := of0 0x12 rfl rfl rfl
theorem sloIndy (a : Byte) : Statement (.sloIndy a) := of1 0x13 .sloIndy rfl rfl rfl rfl
theorem nopZpx14 (a : Byte) : Statement (.nopZpx14 a) := of1 0x14 .nopZpx14 rfl rfl rfl rfl
theorem oraZpx (a : Byte) : Statement (.oraZpx a) := of1 0x15 .oraZpx rfl rfl rfl rfl
theorem aslZpx (a : Byte) : Statement (.aslZpx a) := of1 0x16 .aslZpx rfl rfl rfl rfl
theorem sloZpx (a : Byte) : Statement (.sloZpx a) := of1 0x17 .sloZpx rfl rfl rfl rfl
theorem clc : Statement .clc := of0 0x18 rfl rfl rfl
theorem oraAbsy (l h : Byte) : Statement (.oraAbsy l h) := of2 0x19 .oraAbsy rfl rfl rfl rfl
theorem nopImp1A : Statement .nopImp1A := of0 0x1A rfl rfl rfl
theorem sloAbsy (l h : Byte) : Statement (.sloAbsy l h) := of2 0x1B .sloAbsy rfl rfl rfl rfl
theorem nopAbsx1C (l h : Byte) : Statement (.nopAbsx1C l h) := of2 0x1C .nopAbsx1C rfl rfl rfl rfl
theorem oraAbsx (l h : Byte) : Statement (.oraAbsx l h) := of2 0x1D .oraAbsx rfl rfl rfl rfl
theorem aslAbsx (l h : Byte) : Statement (.aslAbsx l h) := of2 0x1E .aslAbsx rfl rfl rfl rfl
theorem sloAbsx (l h : Byte) : Statement (.sloAbsx l h) := of2 0x1F .sloAbsx rfl rfl rfl rfl
theorem jsrAbs (l h : Byte) : Statement (.jsrAbs l h) := of2 0x20 .jsrAbs rfl rfl rfl rfl
theorem andIndx (a : Byte) : Statement (.andIndx a) := of1 0x21 .andIndx rfl rfl rfl rfl
theorem undef22 : Statement .undef22 := of0 0x22 rfl rfl rfl
theorem rlaIndx (a : Byte) : Statement (.rlaIndx a) := of1 0x23 .rlaIndx rfl rfl rfl rfl
theorem bitZp (a : Byte) : Statement (.bitZp a) := of1 0x24 .bitZp rfl rfl rfl rfl
theorem andZp (a : Byte) : Statement (.andZp a) := of1 0x25 .andZp rfl rfl rfl rfl
theorem rolZp (a : Byte) : Statement (.rolZp a) := of1 0x26 .rolZp rfl rfl rfl rfl
theorem rlaZp (a : Byte) : Statement (.rlaZp a) := of1 0x27 .rlaZp rfl rfl rfl rfl
theorem plp : Statement .plp := of0 0x28 rfl rfl rfl
theorem andImm (i : Byte) : Statement (.andImm i) := of1 0x29 .andImm rfl rfl rfl rfl
theorem rolAcc : Statement .rolAcc := of0 0x2A rfl rfl rfl
theorem undef2B : Statement .undef2B := of0 0x2B rfl rfl rfl
theorem bitAbs (l h : Byte) : Statement (.bitAbs l h) := of2 0x2C .bitAbs rfl rfl rfl rfl
theorem andAbs (l h : Byte) : Statement (.andAbs l h) := of2 0x2D .andAbs rfl rfl rfl rfl
theorem rolAbs (l h : Byte) : Statement (.rolAbs l h) := of2 0x2E .rolAbs rfl rfl rfl rfl
theorem rlaAbs (l h : Byte) : Statement (.rlaAbs l h) := of2 0x2F .rlaAbs rfl rfl rfl rfl
theorem bmiRel (o : Byte) : Statement (.bmiRel o) := of1 0x30 .bmiRel rfl rfl rfl rfl
theorem andIndy (a : Byte) : Statement (.andIndy a) := of1 0x31 .andIndy rfl rfl rfl rfl
theorem undef32 : Statement .undef32 := of0 0x32 rfl rfl rfl
theorem rlaIndy (a : Byte) : Statement (.rlaIndy a) := of1 0x33 .rlaIndy rfl rfl rfl rfl
theorem nopZpx34 (a : Byte) : Statement (.nopZpx34 a) := of1 0x34 .nopZpx34 rfl rfl rfl rfl
theorem andZpx (a : Byte) : Statement (.andZpx a) := of1 0x35 .andZpx rfl rfl rfl rfl
theorem rolZpx (a : Byte) : Statement (.rolZpx a) := of1 0x36 .rolZpx rfl rfl rfl rfl
theorem rlaZpx (a : Byte) : Statement (.rlaZpx a) := of1 0x37 .rlaZpx rfl rfl rfl rfl
theorem sec : Statement .sec := of0 0x38 rfl rfl rfl
theorem andAbsy (l h : Byte) : Statement (.andAbsy l h) := of2 0x39 .andAbsy rfl rfl rfl rfl
theorem nopImp3A : Statement .nopImp3A := of0 0x3A rfl rfl rfl
theorem rlaAbsy (l h : Byte) : Statement (.rlaAbsy l h) := of2 0x3B .rlaAbsy rfl rfl rfl rfl
theorem nopAbsx3C (l h : Byte) : Statement (.nopAbsx3C l h) := of2 0x3C .nopAbsx3C rfl rfl rfl rfl
theorem andAbsx (l h : Byte) : Statement (.andAbsx l h) := of2 0x3D .andAbsx rfl rfl rfl rfl
theorem rolAbsx (l h : Byte) : Statement (.rolAbsx l h) := of2 0x3E .rolAbsx rfl rfl rfl rfl
theorem rlaAbsx (l h : Byte) : Statement (.rlaAbsx l h) := of2 0x3F .rlaAbsx rfl rfl rfl rfl
theorem rti : Statement .rti := of0 0x40 rfl rfl rfl
theorem eorIndx (a : Byte) : Statement (.eorIndx a) := of1 0x41 .eorIndx rfl rfl rfl rfl
theorem undef42 : Statement .undef42 := of0 0x42 rfl rfl rfl
theorem sreIndx (a : Byte) : Statement (.sreIndx a) := of1 0x43 .sreIndx rfl rfl rfl rfl
theorem nopZp44 (a : Byte) : Statement (.nopZp44 a) := of1 0x44 .nopZp44 rfl rfl rfl rfl
theorem eorZp (a : Byte) : Statement (.eorZp a) := of1 0x45 .eorZp rfl rfl rfl rfl
theorem lsrZp (a : Byte) : Statement (.lsrZp a) := of1 0x46 .lsrZp rfl rfl rfl rfl
theorem sreZp (a : Byte) : Statement (.sreZp a) := of1 0x47 .sreZp rfl rfl rfl rfl
theorem pha : Statement .pha := of0 0x48 rfl rfl rfl
theorem eorImm (i : Byte) : Statement (.eorImm i) := of1 0x49 .eorImm rfl rfl rfl rfl
theorem lsrAcc : Statement .lsrAcc := of0 0x4A rfl rfl rfl
theorem undef4B : Statement .undef4B := of0 0x4B rfl rfl rfl
theorem jmpAbs (l h : Byte) : Statement (.jmpAbs l h) := of2 0x4C .jmpAbs rfl rfl rfl rfl
theorem eorAbs (l h : Byte) : Statement (.eorAbs l h) := of2 0x4D .eorAbs rfl rfl rfl rfl
theorem lsrAbs (l h : Byte) : Statement (.lsrAbs l h) := of2 0x4E .lsrAbs rfl rfl rfl rfl
theorem sreAbs (l h : Byte) : Statement (.sreAbs l h) := of2 0x4F .sreAbs rfl rfl rfl rfl
theorem bvcRel (o : Byte) : Statement (.bvcRel o) := of1 0x50 .bvcRel rfl rfl rfl rfl
theorem eorIndy (a : Byte) : Statement (.eorIndy a) := of1 0x51 .eorIndy rfl rfl rfl rfl
theorem undef52 : Statement .undef52 := of0 0x52 rfl rfl rfl
theorem sreIndy (a : Byte) : Statement (.sreIndy a) := of1 0x53 .sreIndy rfl rfl rfl rfl
theorem nopZpx54 (a : Byte) : Statement (.nopZpx54 a) := of1 0x54 .nopZpx54 rfl rfl rfl rfl
theorem eorZpx (a : Byte) : Statement (.eorZpx a) := of1 0x55 .eorZpx rfl rfl rfl rfl
theorem lsrZpx (a : Byte) : Statement (.lsrZpx a) := of1 0x56 .lsrZpx rfl rfl rfl rfl
theorem sreZpx (a : Byte) : Statement (.sreZpx a) := of1 0x57 .sreZpx rfl rfl rfl rfl
theorem cli : Statement .cli := of0 0x58 rfl rfl rfl
theorem eorAbsy (l h : Byte) : Statement (.eorAbsy l h) := of2 0x59 .eorAbsy rfl rfl rfl rfl
theorem nopImp5A : Statement .nopImp5A := of0 0x5A rfl rfl rfl
theorem sreAbsy (l h : Byte) : Statement (.sreAbsy l h) := of2 0x5B .sreAbsy rfl rfl rfl rfl
theorem nopAbsx5C (l h : Byte) : Statement (.nopAbsx5C l h) := of2 0x5C .nopAbsx5C rfl rfl rfl rfl
theorem eorAbsx (l h : Byte) : Statement (.eorAbsx l h) := of2 0x5D .eorAbsx rfl rfl rfl rfl
theorem lsrAbsx (l h : Byte) : Statement (.lsrAbsx l h) := of2 0x5E .lsrAbsx rfl rfl rfl rfl
theorem sreAbsx (l h : Byte) : Statement (.sreAbsx l h) := of2 0x5F .sreAbsx rfl rfl rfl rfl
theorem rts : Statement .rts := of0 0x60 rfl rfl rfl
theorem adcIndx (a : Byte) : Statement (.adcIndx a) := of1 0x61 .adcIndx rfl rfl rfl rfl
theorem undef62 : Statement .undef62 := of0 0x62 rfl rfl rfl
theorem rraIndx (a : Byte) : Statement (.rraIndx a) := of1 0x63 .rraIndx rfl rfl rfl rfl
theorem nopZp64 (a : Byte) : Statement (.nopZp64 a) := of1 0x64 .nopZp64 rfl rfl rfl rfl
theorem adcZp (a : Byte) : Statement (.adcZp a) := of1 0x65 .adcZp rfl rfl rfl rfl
theorem rorZp (a : Byte) : Statement (.rorZp a) := of1 0x66 .rorZp rfl rfl rfl rfl
theorem rraZp (a : Byte) : Statement (.rraZp a) := of1 0x67 .rraZp rfl rfl rfl rfl
theorem pla : Statement .pla := of0 0x68 rfl rfl rfl
theorem adcImm (i : Byte) : Statement (.adcImm i) := of1 0x69 .adcImm rfl rfl rfl rfl
theorem rorAcc : Statement .rorAcc := of0 0x6A rfl rfl rfl
theorem undef6B : Statement .undef6B := of0 0x6B rfl rfl rfl
theorem jmpInd (l h : Byte) : Statement (.jmpInd l h) := of2 0x6C .jmpInd rfl rfl rfl rfl
theorem adcAbs (l h : Byte) : Statement (.adcAbs l h) := of2 0x6D .adcAbs rfl rfl rfl rfl
theorem rorAbs (l h : Byte) : Statement (.rorAbs l h) := of2 0x6E .rorAbs rfl rfl rfl rfl
theorem rraAbs (l h : Byte) : Statement (.rraAbs l h) := of2 0x6F .rraAbs rfl rfl rfl rfl
theorem bvsRel (o : Byte) : Statement (.bvsRel o) := of1 0x70 .bvsRel rfl rfl rfl rfl
theorem adcIndy (a : Byte) : Statement (.adcIndy a) := of1 0x71 .adcIndy rfl rfl rfl rfl
theorem undef72 : Statement .undef72 := of0 0x72 rfl rfl rfl
theorem rraIndy (a : Byte) : Statement (.rraIndy a) := of1 0x73 .rraIndy rfl rfl rfl rfl
theorem nopZpx74 (a : Byte) : Statement (.nopZpx74 a) := of1 0x74 .nopZpx74 rfl rfl rfl rfl
theorem adcZpx (a : Byte) : Statement (.adcZpx a) := of1 0x75 .adcZpx rfl rfl rfl rfl
theorem rorZpx (a : Byte) : Statement (.rorZpx a) := of1 0x76 .rorZpx rfl rfl rfl rfl
theorem rraZpx (a : Byte) : Statement (.rraZpx a) := of1 0x77 .rraZpx rfl rfl rfl rfl
theorem sei : Statement .sei := of0 0x78 rfl rfl rfl
theorem adcAbsy (l h : Byte) : Statement (.adcAbsy l h) := of2 0x79 .adcAbsy rfl rfl rfl rfl
theorem nopImp7A : Statement .nopImp7A := of0 0x7A rfl rfl rfl
theorem rraAbsy (l h : Byte) : Statement (.rraAbsy l h) := of2 0x7B .rraAbsy rfl rfl rfl rfl
theorem nopAbsx7C (l h : Byte) : Statement (.nopAbsx7C l h) := of2 0x7C .nopAbsx7C rfl rfl rfl rfl
theorem adcAbsx (l h : Byte) : Statement (.adcAbsx l h) := of2 0x7D .adcAbsx rfl rfl rfl rfl
theorem rorAbsx (l h : Byte) : Statement (.rorAbsx l h) := of2 0x7E .rorAbsx rfl rfl rfl rfl
theorem rraAbsx (l h : Byte) : Statement (.rraAbsx l h) := of2 0x7F .rraAbsx rfl rfl rfl rfl
theorem nopImm80 (i : Byte) : Statement (.nopImm80 i) := of1 0x80 .nopImm80 rfl rfl rfl rfl
theorem staIndx (a : Byte) : Statement (.staIndx a) := of1 0x81 .staIndx rfl rfl rfl rfl
theorem nopImm82 (i : Byte) : Statement (.nopImm82 i) := of1 0x82 .nopImm82 rfl rfl rfl rfl
theorem saxIndx (a : Byte) : Statement (.saxIndx a) := of1 0x83 .saxIndx rfl rfl rfl rfl
theorem styZp (a : Byte) : Statement (.styZp a) := of1 0x84 .styZp rfl rfl rfl rfl
theorem staZp (a : Byte) : Statement (.staZp a) := of1 0x85 .staZp rfl rfl rfl rfl
theorem stxZp (a : Byte) : Statement (.stxZp a) := of1 0x86 .stxZp rfl rfl rfl rfl
theorem saxZp (a : Byte) : Statement (.saxZp a) := of1 0x87 .saxZp rfl rfl rfl rfl
theorem dey : Statement .dey := of0 0x88 rfl rfl rfl
theorem nopImm89 (i : Byte) : Statement (.nopImm89 i) := of1 0x89 .nopImm89 rfl rfl rfl rfl
theorem txa : Statement .txa := of0 0x8A rfl rfl rfl
theorem undef8B : Statement .undef8B := of0 0x8B rfl rfl rfl
theorem styAbs (l h : Byte) : Statement (.styAbs l h) := of2 0x8C .styAbs rfl rfl rfl rfl
theorem staAbs (l h : Byte) : Statement (.staAbs l h) := of2 0x8D .staAbs rfl rfl rfl rfl
theorem stxAbs (l h : Byte) : Statement (.stxAbs l h) := of2 0x8E .stxAbs rfl rfl rfl rfl
theorem saxAbs (l h : Byte) : Statement (.saxAbs l h) := of2 0x8F .saxAbs rfl rfl rfl rfl
theorem bccRel (o : Byte) : Statement (.bccRel o) := of1 0x90 .bccRel rfl rfl rfl rfl
theorem staIndy (a : Byte) : Statement (.staIndy a) := of1 0x91 .staIndy rfl rfl rfl rfl
theorem undef92 : Statement .undef92 := of0 0x92 rfl rfl rfl
theorem undef93 : Statement .undef93 := of0 0x93 rfl rfl rfl
theorem styZpx (a : Byte) : Statement (.styZpx a) := of1 0x94 .styZpx rfl rfl rfl rfl
theorem staZpx (a : Byte) : Statement (.staZpx a) := of1 0x95 .staZpx rfl rfl rfl rfl
theorem stxZpy (a : Byte) : Statement (.stxZpy a) := of1 0x96 .stxZpy rfl rfl rfl rfl
theorem saxZpy (a : Byte) : Statement (.saxZpy a) := of1 0x97 .saxZpy rfl rfl rfl rfl
theorem tya : Statement .tya := of0 0x98 rfl rfl rfl
theorem staAbsy (l h : Byte) : Statement (.staAbsy l h) := of2 0x99 .staAbsy rfl rfl rfl rfl
theorem txs : Statement .txs := of0 0x9A rfl rfl rfl
theorem undef9B : Statement .undef9B := of0 0x9B rfl rfl rfl
theorem undef9C : Statement .undef9C := of0 0x9C rfl rfl rfl
theorem staAbsx (l h : Byte) : Statement (.staAbsx l h) := of2 0x9D .staAbsx rfl rfl rfl rfl
theorem undef9E : Statement .undef9E := of0 0x9E rfl rfl rfl
theorem undef9F : Statement .undef9F := of0 0x9F rfl rfl rfl
theorem ldyImm (i : Byte) : Statement (.ldyImm i) := of1 0xA0 .ldyImm rfl rfl rfl rfl
theorem ldaIndx (a : Byte) : Statement (.ldaIndx a) := of1 0xA1 .ldaIndx rfl rfl rfl rfl
theorem ldxImm (i : Byte) : Statement (.ldxImm i) := of1 0xA2 .ldxImm rfl rfl rfl rfl
theorem laxIndx (a : Byte) : Statement (.laxIndx a) := of1 0xA3 .laxIndx rfl rfl rfl rfl
theorem ldyZp (a : Byte) : Statement (.ldyZp a) := of1 0xA4 .ldyZp rfl rfl rfl rfl
theorem ldaZp (a : Byte) : Statement (.ldaZp a) := of1 0xA5 .ldaZp rfl rfl rfl rfl
theorem ldxZp (a : Byte) : Statement (.ldxZp a) := of1 0xA6 .ldxZp rfl rfl rfl rfl
theorem laxZp (a : Byte) : Statement (.laxZp a) := of1 0xA7 .laxZp rfl rfl rfl rfl
theorem tay : Statement .tay := of0 0xA8 rfl rfl rfl
theorem ldaImm (i : Byte) : Statement (.ldaImm i) := of1 0xA9 .ldaImm rfl rfl rfl rfl
theorem tax : Statement .tax := of0 0xAA rfl rfl rfl
theorem undefAB : Statement .undefAB := of0 0xAB rfl rfl rfl
theorem ldyAbs (l h : Byte) : Statement (.ldyAbs l h) := of2 0xAC .ldyAbs rfl rfl rfl rfl
theorem ldaAbs (l h : Byte) : Statement (.ldaAbs l h) := of2 0xAD .ldaAbs rfl rfl rfl rfl
theorem ldxAbs (l h : Byte) : Statement (.ldxAbs l h) := of2 0xAE .ldxAbs rfl rfl rfl rfl
theorem laxAbs (l h : Byte) : Statement (.laxAbs l h) := of2 0xAF .laxAbs rfl rfl rfl rfl
theorem bcsRel (o : Byte) : Statement (.bcsRel o) := of1 0xB0 .bcsRel rfl rfl rfl rfl
theorem ldaIndy (a : Byte) : Statement (.ldaIndy a) := of1 0xB1 .ldaIndy rfl rfl rfl rfl
theorem undefB2 : Statement .undefB2 := of0 0xB2 rfl rfl rfl
theorem laxIndy (a : Byte) : Statement (.laxIndy a) := of1 0xB3 .laxIndy rfl rfl rfl rfl
theorem ldyZpx (a : Byte) : Statement (.ldyZpx a) := of1 0xB4 .ldyZpx rfl rfl rfl rfl
theorem ldaZpx (a : Byte) : Statement (.ldaZpx a) := of1 0xB5 .ldaZpx rfl rfl rfl rfl
theorem ldxZpy (a : Byte) : Statement (.ldxZpy a) := of1 0xB6 .ldxZpy rfl rfl rfl rfl
theorem laxZpy (a : Byte) : Statement (.laxZpy a) := of1 0xB7 .laxZpy rfl rfl rfl rfl
theorem clv : Statement .clv := of0 0xB8 rfl rfl rfl
theorem ldaAbsy (l h : Byte) : Statement (.ldaAbsy l h) := of2 0xB9 .ldaAbsy rfl rfl rfl rfl
theorem tsx : Statement .tsx := of0 0xBA rfl rfl rfl
theorem undefBB : Statement .undefBB := of0 0xBB rfl rfl rfl
theorem ldyAbsx (l h : Byte) : Statement (.ldyAbsx l h) := of2 0xBC .ldyAbsx rfl rfl rfl rfl
theorem ldaAbsx (l h : Byte) : Statement (.ldaAbsx l h) := of2 0xBD .ldaAbsx rfl rfl rfl rfl
theorem ldxAbsy (l h : Byte) : Statement (.ldxAbsy l h) := of2 0xBE .ldxAbsy rfl rfl rfl rfl
theorem laxAbsy (l h : Byte) : Statement (.laxAbsy l h) := of2 0xBF .laxAbsy rfl rfl rfl rfl
theorem cpyImm (i : Byte) : Statement (.cpyImm i) := of1 0xC0 .cpyImm rfl rfl rfl rfl
theorem cmpIndx (a : Byte) : Statement (.cmpIndx a) := of1 0xC1 .cmpIndx rfl rfl rfl rfl
theorem nopImmC2 (i : Byte) : Statement (.nopImmC2 i) := of1 0xC2 .nopImmC2 rfl rfl rfl rfl
theorem dcpIndx (a : Byte) : Statement (.dcpIndx a) := of1 0xC3 .dcpIndx rfl rfl rfl rfl
theorem cpyZp (a : Byte) : Statement (.cpyZp a) := of1 0xC4 .cpyZp rfl rfl rfl rfl
theorem cmpZp (a : Byte) : Statement (.cmpZp a) := of1 0xC5 .cmpZp rfl rfl rfl rfl
theorem decZp (a : Byte) : Statement (.decZp a) := of1 0xC6 .decZp rfl rfl rfl rfl
theorem dcpZp (a : Byte) : Statement (.dcpZp a) := of1 0xC7 .dcpZp rfl rfl rfl rfl
theorem iny : Statement .iny := of0 0xC8 rfl rfl rfl
theorem cmpImm (i : Byte) : Statement (.cmpImm i) := of1 0xC9 .cmpImm rfl rfl rfl rfl
theorem dex : Statement .dex := of0 0xCA rfl rfl rfl
theorem undefCB : Statement .undefCB := of0 0xCB rfl rfl rfl
theorem cpyAbs (l h : Byte) : Statement (.cpyAbs l h) := of2 0xCC .cpyAbs rfl rfl rfl rfl
theorem cmpAbs (l h : Byte) : Statement (.cmpAbs l h) := of2 0xCD .cmpAbs rfl rfl rfl rfl
theorem decAbs (l h : Byte) : Statement (.decAbs l h) := of2 0xCE .decAbs rfl rfl rfl rfl
theorem dcpAbs (l h : Byte) : Statement (.dcpAbs l h) := of2 0xCF .dcpAbs rfl rfl rfl rfl
theorem bneRel (o : Byte) : Statement (.bneRel o) := of1 0xD0 .bneRel rfl rfl rfl rfl
theorem cmpIndy (a : Byte) : Statement (.cmpIndy a) := of1 0xD1 .cmpIndy rfl rfl rfl rfl
theorem undefD2 : Statement .undefD2 := of0 0xD2 rfl rfl rfl
theorem dcpIndy (a : Byte) : Statement (.dcpIndy a) := of1 0xD3 .dcpIndy rfl rfl rfl rfl
theorem nopZpxD4 (a : Byte) : Statement (.nopZpxD4 a) := of1 0xD4 .nopZpxD4 rfl rfl rfl rfl
theorem cmpZpx (a : Byte) : Statement (.cmpZpx a) := of1 0xD5 .cmpZpx rfl rfl rfl rfl
theorem decZpx (a : Byte) : Statement (.decZpx a) := of1 0xD6 .decZpx rfl rfl rfl rfl
theorem dcpZpx (a : Byte) : Statement (.dcpZpx a) := of1 0xD7 .dcpZpx rfl rfl rfl rfl
theorem cld : Statement .cld := of0 0xD8 rfl rfl rfl
theorem cmpAbsy (l h : Byte) : Statement (.cmpAbsy l h) := of2 0xD9 .cmpAbsy rfl rfl rfl rfl
theorem nopImpDA : Statement .nopImpDA := of0 0xDA rfl rfl rfl
theorem dcpAbsy (l h : Byte) : Statement (.dcpAbsy l h) := of2 0xDB .dcpAbsy rfl rfl rfl rfl
theorem nopAbsxDC (l h : Byte) : Statement (.nopAbsxDC l h) := of2 0xDC .nopAbsxDC rfl rfl rfl rfl
theorem cmpAbsx (l h : Byte) : Statement (.cmpAbsx l h) := of2 0xDD .cmpAbsx rfl rfl rfl rfl
theorem decAbsx (l h : Byte) : Statement (.decAbsx l h) := of2 0xDE .decAbsx rfl rfl rfl rfl
theorem dcpAbsx (l h : Byte) : Statement (.dcpAbsx l h) := of2 0xDF .dcpAbsx rfl rfl rfl rfl
theorem cpxImm (i : Byte) : Statement (.cpxImm i) := of1 0xE0 .cpxImm rfl rfl rfl rfl
theorem sbcIndx (a : Byte) : Statement (.sbcIndx a) := of1 0xE1 .sbcIndx rfl rfl rfl rfl
theorem nopImmE2 (i : Byte) : Statement (.nopImmE2 i) := of1 0xE2 .nopImmE2 rfl rfl rfl rfl
theorem isbIndx (a : Byte) : Statement (.isbIndx a) := of1 0xE3 .isbIndx rfl rfl rfl rfl
theorem cpxZp (a : Byte) : Statement (.cpxZp a) := of1 0xE4 .cpxZp rfl rfl rfl rfl
theorem sbcZp (a : Byte) : Statement (.sbcZp a) := of1 0xE5 .sbcZp rfl rfl rfl rfl
theorem incZp (a : Byte) : Statement (.incZp a) := of1 0xE6 .incZp rfl rfl rfl rfl
theorem isbZp (a : Byte) : Statement (.isbZp a) := of1 0xE7 .isbZp rfl rfl rfl rfl
theorem inx : Statement .inx := of0 0xE8 rfl rfl rfl
theorem sbcImm (i : Byte) : Statement (.sbcImm i) := of1 0xE9 .sbcImm rfl rfl rfl rfl
theorem nop : Statement .nop := of0 0xEA rfl rfl rfl
theorem sbcImmEB (i : Byte) : Statement (.sbcImmEB i) := of1 0xEB .sbcImmEB rfl rfl rfl rfl
theorem cpxAbs (l h : Byte) : Statement (.cpxAbs l h) := of2 0xEC .cpxAbs rfl rfl rfl rfl
theorem sbcAbs (l h : Byte) : Statement (.sbcAbs l h) := of2 0xED .sbcAbs rfl rfl rfl rfl
theorem incAbs (l h : Byte) : Statement (.incAbs l h) := of2 0xEE .incAbs rfl rfl rfl rfl
theorem isbAbs (l h : Byte) : Statement (.isbAbs l h) := of2 0xEF .isbAbs rfl rfl rfl rfl
theorem beqRel (o : Byte) : Statement (.beqRel o) := of1 0xF0 .beqRel rfl rfl rfl rfl
theorem sbcIndy (a : Byte) : Statement (.sbcIndy a) := of1 0xF1 .sbcIndy rfl rfl rfl rfl
theorem undefF2 : Statement .undefF2 := of0 0xF2 rfl rfl rfl
theorem isbIndy (a : Byte) : Statement (.isbIndy a) := of1 0xF3 .isbIndy rfl rfl rfl rfl
theorem nopZpxF4 (a : Byte) : Statement (.nopZpxF4 a) := of1 0xF4 .nopZpxF4 rfl rfl rfl rfl
theorem sbcZpx (a : Byte) : Statement (.sbcZpx a) := of1 0xF5 .sbcZpx rfl rfl rfl rfl
theorem incZpx (a : Byte) : Statement (.incZpx a) := of1 0xF6 .incZpx rfl rfl rfl rfl
theorem isbZpx (a : Byte) : Statement (.isbZpx a) := of1 0xF7 .isbZpx rfl rfl rfl rfl
theorem sed : Statement .sed := of0 0xF8 rfl rfl rfl
theorem sbcAbsy (l h : Byte) : Statement (.sbcAbsy l h) := of2 0xF9 .sbcAbsy rfl rfl rfl rfl
theorem nopImpFA : Statement .nopImpFA := of0 0xFA rfl rfl rfl
theorem isbAbsy (l h : Byte) : Statement (.isbAbsy l h) := of2 0xFB .isbAbsy rfl rfl rfl rfl
theorem nopAbsxFC (l h : Byte) : Statement (.nopAbsxFC l h) := of2 0xFC .nopAbsxFC rfl rfl rfl rfl
theorem sbcAbsx (l h : Byte) : Statement (.sbcAbsx l h) := of2 0xFD .sbcAbsx rfl rfl rfl rfl
theorem incAbsx (l h : Byte) : Statement (.incAbsx l h) := of2 0xFE .incAbsx rfl rfl rfl rfl
theorem isbAbsx (l h : Byte) : Statement (.isbAbsx l h) := of2 0xFF .isbAbsx rfl rfl rfl rfl

end Sys2Proof.Laws.OpcodeCell
end

