-- ==== Sys2Proof/Laws/Fetch.lean ====
section
/-! SUPPORT. Fetching an instruction whose bytes stand in RAM or in the cartridge. -/

namespace Sys2Proof.Machine

theorem fetchByte_plain {s : State} {b : Byte} (h : plainRead s s.cpu.pc = some b) :
    fetchByte s = .ok b (s.setPc (s.cpu.pc + 1)) := by
  rw [fetchByte, memRead_plain h]
  rfl

theorem fetchPair_plain {s : State} {l h : Byte} (hl : plainRead s s.cpu.pc = some l)
    (hh : plainRead s (s.cpu.pc + 1) = some h) : fetchPair s = .ok (l, h) (s.setPc (s.cpu.pc + 2)) := by
  rw [fetchPair, memRead_plain hl, Res.andThen_ok, memRead_plain hh]
  rfl

theorem codeAt_setPc {s : State} {a : Word} {l : List Byte} (pc : Word) (h : codeAt s a l) : codeAt (s.setPc pc) a l := by
  induction l generalizing a with
  | nil => trivial
  | cons b l ih => exact ⟨h.1, ih h.2⟩

/-- The operand bytes standing at the PC are fetched with the PC moved past them, nothing else changing (R122-R132). -/
theorem fetchOperand_of_code {i : Instr} {s : State} (hc : Laws.OpcodeCell.Statement i)
    (h : codeAt s s.cpu.pc i.operand.bytes) :
    fetchOperand i.opcode s = .ok i (s.setPc (s.cpu.pc + BitVec.ofNat 16 i.operand.bytes.length)) := by
  rcases hc with ⟨hc, hb⟩ | ⟨f, b, hc, hf, hb⟩ | ⟨f, l, u, hc, hf, hb⟩
  · simp [fetchOperand, hc, hb, State.setPc, State.setCpu]
  · rw [hb] at h ⊢
    simp only [fetchOperand, hc, fetchByte_plain h.1, Res.andThen_ok, hf]
    rfl
  · rw [hb] at h ⊢
    simp only [fetchOperand, hc, fetchPair_plain h.1 h.2.1, Res.andThen_ok, hf]
    rfl

/-- The instruction whose bytes stand at the PC is fetched with the PC moved past it, nothing else changing (R22, R332). -/
theorem fetchInstr_of_code {i : Instr} {s : State} (hc : Laws.OpcodeCell.Statement i) (he : i.wellFormed s.cfg = true)
    (h : codeAt s s.cpu.pc (encode i)) :
    fetchInstr s = .ok i (s.setPc (s.cpu.pc + BitVec.ofNat 16 (encode i).length)) := by
  have he' : (s.setPc (s.cpu.pc + 1)).cfg.enabled i.opcode = true := he
  rw [fetchInstr, fetchByte_plain h.1, Res.andThen_ok, if_pos he', fetchOperand_of_code hc (codeAt_setPc _ h.2)]
  simp only [State.setPc_cpu_pc, encode, List.length_cons]
  rw [BitVec.add_assoc, Nat.add_comm, BitVec.ofNat_add]
  rfl

end Sys2Proof.Machine
end

