-- ==== Sys2Proof/Laws/Step.lean ====
section
/-! SUPPORT. What the CPU's step, the raster's step and the driver's actions can do. -/

namespace Sys2Proof.Machine

/-! ## The CPU's step -/

theorem CpuFrame.beginStep (s : State) : CpuFrame s s.beginStep := by
  constructor <;> try simp
  exact fun m => ⟨m.ram, m.oam, m.pal, m.noAlias, m.ciram, m.chr, m.prg, m.fb⟩

theorem fetchByte_frame {s t : State} {b : Byte} (h : fetchByte s = .ok b t) : CpuFrame s t := by
  obtain ⟨x, u, h₁, h₂⟩ := Res.andThen_eq_ok.mp h
  cases h₂
  exact (memRead_frame h₁).1.trans (CpuFrame.setCpu u _)

theorem fetchPair_frame {s t : State} {p : Byte × Byte} (h : fetchPair s = .ok p t) : CpuFrame s t := by
  obtain ⟨x, u, h₁, h₂⟩ := Res.andThen_eq_ok.mp h
  obtain ⟨y, v, h₃, h₄⟩ := Res.andThen_eq_ok.mp h₂
  cases h₄
  exact ((memRead_frame h₁).1.trans (memRead_frame h₃).1).trans (CpuFrame.setCpu v _)

theorem fetchOperand_frame {op : Byte} {s t : State} {i : Instr} (h : fetchOperand op s = .ok i t) : CpuFrame s t := by
  simp only [fetchOperand] at h
  split at h
  · cases h; exact CpuFrame.refl s
  · obtain ⟨b, u, h₁, h₂⟩ := Res.andThen_eq_ok.mp h
    cases h₂; exact fetchByte_frame h₁
  · obtain ⟨b, u, h₁, h₂⟩ := Res.andThen_eq_ok.mp h
    cases h₂; exact fetchPair_frame h₁

theorem fetchInstr_frame {s t : State} {i : Instr} (h : fetchInstr s = .ok i t) : CpuFrame s t := by
  obtain ⟨op, u, h₁, h₂⟩ := Res.andThen_eq_ok.mp h
  split at h₂
  · exact (fetchByte_frame h₁).trans (fetchOperand_frame h₂)
  · simp [undefinedOpcode] at h₂

theorem resetEntry_frame {s t : State} (h : resetEntry s = .ok () t) : CpuFrame s t := by
  obtain ⟨pc, u, h₁, h₂⟩ := Res.andThen_eq_ok.mp h
  cases h₂
  exact (read16_frame h₁).1.trans (CpuFrame.setCpu u _)

theorem nmiEntry_frame {s t : State} (h : nmiEntry s = .ok () t) : CpuFrame s t := by
  obtain ⟨pc, u, h₁, h₂⟩ := Res.andThen_eq_ok.mp h
  cases h₂
  exact (enterVector_frame h₁).trans (CpuFrame.setCpu u _)

theorem irqEntry_frame {s t : State} (h : irqEntry s = .ok () t) : CpuFrame s t := by
  simp only [irqEntry] at h
  split at h
  · cases h
  · obtain ⟨pc, u, h₁, h₂⟩ := Res.andThen_eq_ok.mp h
    cases h₂
    exact (enterVector_frame h₁).trans (CpuFrame.setCpu u _)

theorem report_eq_next {cycles : State → Nat} {o : Outcome} {t : State} :
    report cycles o = .next t ↔ ∃ u, o = .next u ∧ t = u.charge (cycles u) := by
  cases o <;> simp [report, eq_comm]

/-- A completed CPU step is an action on the CPU's side with its cycles charged (R332, R371). -/
theorem cpuStep_eq_next {s t : State} (h : cpuStep s = .next t) : ∃ u n, CpuFrame s u ∧ t = u.charge n := by
  have b := CpuFrame.beginStep s
  have entry : ∀ {r : Res Unit} {n : Nat}, (∀ u, r = .ok () u → CpuFrame s.beginStep u) →
      report (fun _ => n) r.toOutcome = .next t → ∃ u n, CpuFrame s u ∧ t = u.charge n := by
    intro r n hr hn
    obtain ⟨u, h₁, h₂⟩ := report_eq_next.mp hn
    exact ⟨u, _, b.trans (hr u (Res.toOutcome_eq_next.mp h₁)), h₂⟩
  simp only [cpuStep] at h
  split at h
  · exact entry (fun _ => resetEntry_frame) h
  · split at h
    · exact entry (fun _ => nmiEntry_frame) h
    · split at h
      · exact entry (fun _ => irqEntry_frame) h
      · simp only [instructionStep] at h
        split at h
        · rename_i i u hi
          obtain ⟨w, h₁, h₂⟩ := report_eq_next.mp h
          exact ⟨w, _, (b.trans (fetchInstr_frame hi)).trans (exec_frame h₁), h₂⟩
        · cases h

/-! ## The raster's step -/

/-- Only the pixel buffer changes, and its rows stay well formed (R290). -/
def FbFrame (s t : State) : Prop :=
  t = s.setFb t.fb ∧ ((∀ row : Fin 240, Memory.ok s.fb[row] 768) → ∀ row : Fin 240, Memory.ok t.fb[row] 768)

theorem FbFrame.refl (s : State) : FbFrame s s := ⟨rfl, id⟩

theorem FbFrame.trans {s t u : State} (h : FbFrame s t) (k : FbFrame t u) : FbFrame s u :=
  ⟨by have := k.1; rw [h.1] at this; exact this, fun m => k.2 (h.2 m)⟩

theorem colour_eq_ok {p : Byte} {s t : State} {c : Rgb} (h : colour p s = .ok c t) : t = s := by
  simp only [colour] at h
  repeat' split at h
  all_goals first
    | (cases h; rfl)
    | cases h

theorem Memory.ok_write {m : Memory} {n k : Nat} (h : Memory.ok m n) (hk : k < n) (b : Byte) : Memory.ok (m.write k b) n :=
  ⟨Memory.wf_write h.1 k b, Memory.below_write h.2 hk b⟩

theorem writePixel_ok {m : Memory} {col : Nat} (c : Rgb) (h : Memory.ok m 768) (hc : col < 256) :
    Memory.ok (writePixel m col c) 768 :=
  Memory.ok_write (Memory.ok_write (Memory.ok_write h (by omega) c.r) (by omega) c.g) (by omega) c.b

theorem setPixel_frame {col row idx : Nat} {s t : State} (hc : col < 256) (h : setPixel col row idx s = .ok () t) :
    FbFrame s t := by
  obtain ⟨c, u, h₁, h₂⟩ := Res.andThen_eq_ok.mp h
  cases colour_eq_ok h₁
  cases h₂
  refine ⟨rfl, fun m r => ?_⟩
  have hr := r.isLt
  simp only [State.setFb, Fin.getElem_fin, Vector.setIfInBounds, Vector.getElem_mk]
  by_cases e : row = r.1
  · subst e
    simp only [Array.getElem_setIfInBounds_self, Vector.getElem?_eq_getElem hr, Option.getD_some]
    exact writePixel_ok c (m r) hc
  · rw [Array.getElem_setIfInBounds_ne _ e]
    exact m r

theorem forEach_range_frame {n : Nat} {f : Nat → State → Res Unit} {s t : State}
    (hf : ∀ x, x < n → ∀ s t, f x s = .ok () t → FbFrame s t) (h : forEach (List.range n) f s = .ok () t) :
    FbFrame s t := by
  have key : ∀ (l : List Nat), (∀ x ∈ l, x < n) → ∀ s, forEach l f s = .ok () t → FbFrame s t := by
    intro l
    induction l with
    | nil => intro _ s h; cases h; exact FbFrame.refl _
    | cons x xs ih =>
      intro hl s h
      obtain ⟨_, u, h₁, h₂⟩ := Res.andThen_eq_ok.mp h
      exact (hf x (hl x (by simp)) s u h₁).trans (ih (fun y hy => hl y (by simp [hy])) u h₂)
  exact key _ (fun x hx => List.mem_range.mp hx) s h

theorem backgroundTile_frame {sl col : Nat} (hc : col < 32) {s t : State} (h : backgroundTile sl col s = .ok () t) :
    FbFrame s t := by
  obtain ⟨_, u, h₁, h⟩ := Res.andThen_eq_ok.mp h
  cases ppuRead_eq_ok h₁
  obtain ⟨_, u, h₁, h⟩ := Res.andThen_eq_ok.mp h
  cases ppuRead_eq_ok h₁
  obtain ⟨_, u, h₁, h⟩ := Res.andThen_eq_ok.mp h
  cases ppuRead_eq_ok h₁
  obtain ⟨_, u, h₁, h⟩ := Res.andThen_eq_ok.mp h
  cases ppuRead_eq_ok h₁
  exact forEach_range_frame (fun px hp s t h => setPixel_frame (by omega) h) h

theorem drawSpriteRow_frame {sl i : Nat} {s t : State} (h : drawSpriteRow sl i s = .ok () t) : FbFrame s t := by
  obtain ⟨_, u, h₁, h⟩ := Res.andThen_eq_ok.mp h
  cases ppuRead_eq_ok h₁
  obtain ⟨_, u, h₁, h⟩ := Res.andThen_eq_ok.mp h
  cases ppuRead_eq_ok h₁
  refine forEach_range_frame (fun px hp s t h => ?_) h
  dsimp only at h
  generalize pixelBits _ _ _ = c at h
  split at h
  · rename_i hx; exact setPixel_frame (by omega) h
  · cases h; exact FbFrame.refl s

/-- The raster writes nothing but the pixel buffer (R290). -/
theorem renderScanline_frame {sl : Nat} {s t : State} (h : renderScanline sl s = .ok () t) : FbFrame s t := by
  obtain ⟨_, u, h₁, h₂⟩ := Res.andThen_eq_ok.mp h
  have f := forEach_range_frame (fun col hc s t => backgroundTile_frame hc) h₁
  split at h₂
  · exact f.trans (forEach_rel FbFrame.refl FbFrame.trans (fun i s t => drawSpriteRow_frame) h₂)
  · cases h₂; exact f

/-! ## The driver -/

theorem hostCall_frame (s : State) (c : HostCall) :
    hostCall s c = { s with cpu := (hostCall s c).cpu, ctl := (hostCall s c).ctl } := by
  cases c <;> rfl

/-- A host call keeps the strobe's invariant (R310, R313). -/
theorem hostCall_strobe {s : State} (c : HostCall) (h : s.ctl.strobe = true → s.ctl.shift = s.ctl.buttons) :
    (hostCall s c).ctl.strobe = true → (hostCall s c).ctl.shift = (hostCall s c).ctl.buttons := by
  cases c with
  | update button pressed => intro hs; simp only [hostCall, Controller.update, State.setCtl] at hs ⊢; simp [hs]
  | hostReset => exact h

theorem hostCall_inv {s : State} (c : HostCall) (i : Inv s) : Inv (hostCall s c) := by
  have f := hostCall_frame s c
  have hs := hostCall_strobe c i.strobe
  rw [f] at hs ⊢
  exact ⟨⟨i.memories.ram, i.memories.oam, i.memories.pal, i.memories.noAlias, i.memories.ciram, i.memories.chr,
    i.memories.prg, i.memories.fb⟩, hs, i.stall, i.line, i.cfg⟩

theorem foldl_hostCall_inv {l : List HostCall} {s : State} (i : Inv s) : Inv (l.foldl hostCall s) := by
  induction l generalizing s with
  | nil => exact i
  | cons c l ih => exact ih (hostCall_inv c i)

theorem hostCalls_inv {s : State} (i : Inv s) : Inv (hostCalls s) := by
  simp only [hostCalls]
  split
  · exact i
  · exact foldl_hostCall_inv ⟨⟨i.memories.ram, i.memories.oam, i.memories.pal, i.memories.noAlias, i.memories.ciram,
      i.memories.chr, i.memories.prg, i.memories.fb⟩, i.strobe, i.stall, i.line, i.cfg⟩

theorem requestNmi_eq_ok {s t : State} (h : requestNmi s = .ok () t) : t = s.setNmiPending true := by
  simp only [requestNmi] at h
  split at h
  · cases h
  · cases h; rfl

/-- The start of a scanline changes vblank, `nmi_pending`, the line and the phase (R320). -/
theorem startLine_eq_ok {sl : Nat} {s t : State} (h : startLine sl s = .ok () t) :
    ∃ vb nmi, t = { s with
      cpu := { s.cpu with nmiPending := nmi }
      ppu := { s.ppu with vblank := vb }
      drv := { s.drv with line := sl, phase := .cpu } } := by
  obtain ⟨_, u, h₁, h₂⟩ := Res.andThen_eq_ok.mp h
  cases h₂
  have hu : ∃ vb nmi, u = { s with
      cpu := { s.cpu with nmiPending := nmi }
      ppu := { s.ppu with vblank := vb }
      drv := { s.drv with line := sl } } := by
    split at h₁
    · simp only [vblankStart] at h₁
      split at h₁
      · cases requestNmi_eq_ok h₁; exact ⟨_, _, rfl⟩
      · cases h₁; exact ⟨_, s.cpu.nmiPending, rfl⟩
    · cases h₁; exact ⟨s.ppu.vblank, s.cpu.nmiPending, rfl⟩
  obtain ⟨vb, nmi, rfl⟩ := hu
  by_cases hc : sl = s.cfg.vblankClearLine
  · exact ⟨false, nmi, by simp [hc, State.setPpu, State.setDrv, Ppu.setVblank]⟩
  · exact ⟨vb, nmi, by simp [hc, State.setDrv]⟩

theorem nextLine_lt {cfg : Config} (h : 0 < cfg.scanlinesPerFrame) (sl : Nat) : nextLine cfg sl < cfg.scanlinesPerFrame := by
  simp only [nextLine]
  split <;> assumption

end Sys2Proof.Machine
end

