-- ==== Sys2Proof/Laws/Render.lean ====
section
/-! SUPPORT. When the raster's step completes: with the default cartridge and every palette byte below 0x40 nothing in it
raises (R295); and what writing one pixel does to every pixel (R305). -/

namespace Sys2Proof.Machine

/-- The default cartridge, and no palette byte that is out of range. -/
def Paintable (s : State) : Prop := s.cfg.cart = .nrom ∧ ∀ k, (s.ppu.pal.read k).toNat < 0x40

theorem forEach_ok {α : Type} {P : State → Prop} {f : α → State → Res Unit}
    (hf : ∀ x s, P s → ∃ t, f x s = .ok () t ∧ P t) (xs : List α) {s : State} (h : P s) :
    ∃ t, forEach xs f s = .ok () t ∧ P t := by
  induction xs generalizing s with
  | nil => exact ⟨s, rfl, h⟩
  | cons x xs ih =>
    obtain ⟨t, h₁, h₂⟩ := hf x s h
    obtain ⟨u, h₃, h₄⟩ := ih h₂
    exact ⟨u, by rw [forEach_cons, h₁]; exact h₃, h₄⟩

theorem ppuRead_nrom {s : State} {a : Nat} (hc : s.cfg.cart = .nrom) (ha : a < 0x4000) :
    ∃ b, ppuRead (BitVec.ofNat 16 a) s = .ok b s := by
  have h : ¬ 0x4000 ≤ (BitVec.ofNat 16 a).toNat := by rw [BitVec.toNat_ofNat]; omega
  simp only [ppuRead, h, if_false, ppuReadLow, cartChrRead, cartNtRead, hc]
  split
  · exact ⟨_, rfl⟩
  · split <;> exact ⟨_, rfl⟩

theorem setPixel_ok {s : State} (h : Paintable s) (col row idx : Nat) :
    ∃ t, setPixel col row idx s = .ok () t ∧ Paintable t := by
  have hp : ¬ 0x40 ≤ (palByte s.ppu idx).toNat := by
    have := h.2 (palIndex (0x3F00 + idx))
    simp only [palByte]
    omega
  simp only [setPixel, colour, hp, if_false, Res.andThen_ok]
  exact ⟨_, rfl, h⟩

theorem ntBase_le (p : Ppu) : ntBase p ≤ 0x2C00 := by
  simp only [ntBase]
  omega

theorem bgTable_le (p : Ppu) : bgTable p ≤ 0x1000 := by
  simp only [bgTable, bit]
  split <;> omega

theorem backgroundTile_ok {sl col : Nat} {s : State} (hl : sl ≤ 239) (hc : col < 32) (h : Paintable s) :
    ∃ t, backgroundTile sl col s = .ok () t ∧ Paintable t := by
  have hn := ntBase_le s.ppu
  have hb := bgTable_le s.ppu
  obtain ⟨tile, h₁⟩ := ppuRead_nrom (a := ntBase s.ppu + sl / 8 * 32 + col) h.1 (by omega)
  have ht := tile.isLt
  obtain ⟨lo, h₂⟩ := ppuRead_nrom (a := bgTable s.ppu + tile.toNat * 16 + sl % 8) h.1 (by omega)
  obtain ⟨hi, h₃⟩ := ppuRead_nrom (a := bgTable s.ppu + tile.toNat * 16 + sl % 8 + 8) h.1 (by omega)
  obtain ⟨attr, h₄⟩ := ppuRead_nrom (a := ntBase s.ppu + 0x3C0 + sl / 8 / 4 * 8 + col / 4) h.1 (by omega)
  simp only [backgroundTile, h₁, h₂, h₃, h₄, Res.andThen_ok]
  exact forEach_ok (fun _ _ k => setPixel_ok k _ _ _) _ h

theorem forEach_range_ok {n : Nat} {P : State → Prop} {f : Nat → State → Res Unit}
    (hf : ∀ x, x < n → ∀ s, P s → ∃ t, f x s = .ok () t ∧ P t) {s : State} (h : P s) :
    ∃ t, forEach (List.range n) f s = .ok () t ∧ P t := by
  have key : ∀ (l : List Nat), (∀ x ∈ l, x < n) → ∀ s, P s → ∃ t, forEach l f s = .ok () t ∧ P t := by
    intro l
    induction l with
    | nil => exact fun _ s h => ⟨s, rfl, h⟩
    | cons x xs ih =>
      intro hl s h
      obtain ⟨t, h₁, h₂⟩ := hf x (hl x (by simp)) s h
      obtain ⟨u, h₃, h₄⟩ := ih (fun y hy => hl y (by simp [hy])) t h₂
      exact ⟨u, by rw [forEach_cons, h₁]; exact h₃, h₄⟩
  exact key _ (fun x hx => List.mem_range.mp hx) s h

theorem spriteVisible_row {p : Ppu} {sl i : Nat} (h : spriteVisible p sl i = true) :
    spriteRow p sl i < spriteHeight p := by
  have hh : spriteHeight p = 8 ∨ spriteHeight p = 16 := by
    simp only [spriteHeight]
    split <;> simp
  simp only [spriteVisible, Bool.and_eq_true, decide_eq_true_eq] at h
  simp only [spriteRow]
  split <;> omega

theorem spriteAddr_lt {p : Ppu} {sl i : Nat} (h : spriteVisible p sl i = true) : spriteAddr p sl i + 8 < 0x2000 := by
  have hr := spriteVisible_row h
  have ht := (p.oam.read (4 * i + 1)).isLt
  have hb : bit (p.ctrl.getLsbD 3) ≤ 1 := by simp only [bit]; split <;> omega
  simp only [spriteAddr]
  split
  · omega
  · have hh : spriteHeight p ≤ 16 := by simp only [spriteHeight]; split <;> omega
    simp only [addr16]
    omega

theorem drawSpriteRow_ok {sl i : Nat} {s : State} (hv : spriteVisible s.ppu sl i = true) (h : Paintable s) :
    ∃ t, drawSpriteRow sl i s = .ok () t ∧ Paintable t := by
  have ha := spriteAddr_lt hv
  obtain ⟨lo, h₁⟩ := ppuRead_nrom (a := spriteAddr s.ppu sl i) h.1 (by omega)
  obtain ⟨hi, h₂⟩ := ppuRead_nrom (a := spriteAddr s.ppu sl i + 8) h.1 (by omega)
  simp only [drawSpriteRow, h₁, h₂, Res.andThen_ok]
  refine forEach_ok (fun px t k => ?_) _ h
  generalize pixelBits _ _ _ = c
  split
  · exact setPixel_ok k _ _ _
  · exact ⟨t, rfl, k⟩

theorem mem_drawOrder {o : SpriteOrder} {l : List Nat} {i : Nat} : i ∈ drawOrder o l ↔ i ∈ l := by
  cases o <;> simp [drawOrder]

/-- A visible scanline of a paintable machine renders. -/
theorem renderScanline_ok {sl : Nat} {s : State} (hl : sl ≤ 239) (h : Paintable s) :
    ∃ t, renderScanline sl s = .ok () t := by
  obtain ⟨t, h₁, h₂⟩ := forEach_range_ok (fun col hc u k => backgroundTile_ok hl hc k) h
  have hf := forEach_range_frame (fun col hc s t => backgroundTile_frame hc) h₁
  simp only [renderScanline, backgroundPass, h₁, Res.andThen_ok]
  split
  · have key : ∀ (l : List Nat) (u : State), (∀ i ∈ l, spriteVisible u.ppu sl i = true) → Paintable u →
        ∃ v, forEach l (drawSpriteRow sl) u = .ok () v := by
      intro l
      induction l with
      | nil => exact fun u _ _ => ⟨u, rfl⟩
      | cons i l ih =>
        intro u hv k
        obtain ⟨v, h₃, h₄⟩ := drawSpriteRow_ok (hv i (by simp)) k
        have e : v.ppu = u.ppu := by rw [(drawSpriteRow_frame h₃).1]; rfl
        obtain ⟨w, h₅⟩ := ih v (fun j hj => by rw [e]; exact hv j (by simp [hj])) h₄
        exact ⟨w, by rw [forEach_cons, h₃]; exact h₅⟩
    refine key _ t (fun i hi => ?_) h₂
    have := List.mem_of_mem_take (mem_drawOrder.mp hi)
    exact (List.mem_filter.mp this).2
  · exact ⟨t, rfl⟩

/-! ## One pixel -/

theorem writePixel_read (m : Memory) (col k : Nat) (c : Rgb) :
    (writePixel m col c).read k =
      if k = 3 * col then c.r else if k = 3 * col + 1 then c.g else if k = 3 * col + 2 then c.b else m.read k := by
  simp only [writePixel, Memory.read_write]
  repeat' split
  all_goals first | rfl | omega

/-- Writing a pixel gives it its colour and leaves every other pixel alone (R305). -/
theorem pixelAt_write (fb : PixelBuffer) (c : Rgb) {col row x y : Nat} (hc : col < 256) (hr : row < 240) (hx : x < 256) :
    pixelAt (fb.setIfInBounds row (writePixel ((fb[row]?).getD []) col c)) x y =
      if x = col ∧ y = row then c else pixelAt fb x y := by
  have byte : ∀ j < 3, fbByte (fb.setIfInBounds row (writePixel ((fb[row]?).getD []) col c)) (3 * (y * 256 + x) + j) =
      if x = col ∧ y = row then (if j = 0 then c.r else if j = 1 then c.g else c.b)
      else fbByte fb (3 * (y * 256 + x) + j) := by
    intro j hj
    have hq : (3 * (y * 256 + x) + j) / 768 = y := by omega
    have hm : (3 * (y * 256 + x) + j) % 768 = 3 * x + j := by omega
    simp only [fbByte, hq, hm]
    by_cases hy : y = row
    · subst hy
      simp only [Vector.getElem?_setIfInBounds_self, if_pos hr, Option.getD_some, writePixel_read, and_true]
      by_cases hxc : x = col
      · subst hxc
        repeat' split
        all_goals first | rfl | omega
      · simp only [hxc, if_false]
        rw [if_neg (by omega), if_neg (by omega), if_neg (by omega)]
    · rw [Vector.getElem?_setIfInBounds_ne (Ne.symm hy), if_neg (fun h => hy h.2)]
  have b0 := byte 0 (by decide)
  simp only [Nat.add_zero] at b0
  simp only [pixelAt, b0, byte 1 (by decide), byte 2 (by decide)]
  split <;> rfl

/-- Setting a pixel whose palette byte has a colour: the pixel, and nothing else (R305). -/
theorem setPixel_eq {col row idx : Nat} {s : State} {c : Rgb} (h : colour (palByte s.ppu idx) s = .ok c s) :
    setPixel col row idx s =
      .ok () (s.setFb (s.fb.setIfInBounds row (writePixel ((s.fb[row]?).getD []) col c))) := by
  rw [setPixel, h, Res.andThen_ok]

end Sys2Proof.Machine
end

