-- ==== Sys2Proof/Tests/Slice0.lean ====
section
/-! SUPPORT. Tests: the WellFormed smoke; the decoding of every word of the opcode map; one step of an instruction against the
vectors of spec/95_test_vectors.md; the buses, the PPU, the controller, DMA, the driver and the entries against the
rules' examples; and, for every statement with hypotheses, a state and operands that meet them together. -/

namespace Sys2Proof.Tests

open Sys2Proof.Machine

/-! ## WellFormed smoke -/

/-- R106: an undefined row never executes. -/
theorem test_undefined_row_is_refused : Instr.undef02.wellFormed Config.default = false := by decide

/-- R240: SAX does not execute under the default set, and LAX does. -/
theorem test_disabled_row_is_refused : (Instr.saxZp 0x10).wellFormed Config.default = false := by decide
theorem test_enabled_row_is_accepted : (Instr.laxZp 0x10).wellFormed Config.default = true := by decide

/-- R240: `UNDOC_ENABLED` holds undocumented bytes only, each once. -/
theorem test_documented_byte_in_the_set_is_refused :
    Config.wf { Config.default with undocEnabled := [0xA9] } = false := by decide
theorem test_undefined_byte_in_the_set_is_refused :
    Config.wf { Config.default with undocEnabled := [0x02] } = false := by decide
theorem test_byte_twice_in_the_set_is_refused :
    Config.wf { Config.default with undocEnabled := [0xA7, 0xA7] } = false := by decide

/-- Log 18: a driver with no line to run, or no budget to spend, is not a setting. -/
theorem test_no_cycles_is_refused : Config.wf { Config.default with cyclesPerScanline := 0 } = false := by decide
theorem test_no_lines_is_refused : Config.wf { Config.default with scanlinesPerFrame := 0 } = false := by decide
theorem test_default_setting_is_accepted : Config.wf Config.default = true := by decide

/-! ## Decoding

The words are those of spec/opcode_table.json. -/

/-- Row 0x of the opcode map (R111), its operand bytes 0x5A and 0xC3. -/
theorem test_map_row_0 : [
    0x00, 0x5A01, 0x02, 0x5A03, 0x5A04, 0x5A05, 0x5A06, 0x5A07, 0x08, 0x5A09, 0x0A, 0x0B, 0xC35A0C, 0xC35A0D,
    0xC35A0E, 0xC35A0F].map (decodeTableWord 24) = [
    some .brk, some (.oraIndx 0x5A), some .undef02, some (.sloIndx 0x5A), some (.nopZp04 0x5A), some (.oraZp 0x5A),
    some (.aslZp 0x5A), some (.sloZp 0x5A), some .php, some (.oraImm 0x5A), some .aslAcc, some .undef0B,
    some (.nopAbs0C 0x5A 0xC3), some (.oraAbs 0x5A 0xC3), some (.aslAbs 0x5A 0xC3), some (.sloAbs 0x5A 0xC3)] := by decide

/-- Row 1x of the opcode map (R111), its operand bytes 0x5A and 0xC3. -/
theorem test_map_row_1 : [
    0x5A10, 0x5A11, 0x12, 0x5A13, 0x5A14, 0x5A15, 0x5A16, 0x5A17, 0x18, 0xC35A19, 0x1A, 0xC35A1B, 0xC35A1C, 0xC35A1D,
    0xC35A1E, 0xC35A1F].map (decodeTableWord 24) = [
    some (.bplRel 0x5A), some (.oraIndy 0x5A), some .undef12, some (.sloIndy 0x5A), some (.nopZpx14 0x5A),
    some (.oraZpx 0x5A), some (.aslZpx 0x5A), some (.sloZpx 0x5A), some .clc, some (.oraAbsy 0x5A 0xC3),
    some .nopImp1A, some (.sloAbsy 0x5A 0xC3), some (.nopAbsx1C 0x5A 0xC3), some (.oraAbsx 0x5A 0xC3),
    some (.aslAbsx 0x5A 0xC3), some (.sloAbsx 0x5A 0xC3)] := by decide

/-- Row 2x of the opcode map (R111), its operand bytes 0x5A and 0xC3. -/
theorem test_map_row_2 : [
    0xC35A20, 0x5A21, 0x22, 0x5A23, 0x5A24, 0x5A25, 0x5A26, 0x5A27, 0x28, 0x5A29, 0x2A, 0x2B, 0xC35A2C, 0xC35A2D,
    0xC35A2E, 0xC35A2F].map (decodeTableWord 24) = [
    some (.jsrAbs 0x5A 0xC3), some (.andIndx 0x5A), some .undef22, some (.rlaIndx 0x5A), some (.bitZp 0x5A),
    some (.andZp 0x5A), some (.rolZp 0x5A), some (.rlaZp 0x5A), some .plp, some (.andImm 0x5A), some .rolAcc,
    some .undef2B, some (.bitAbs 0x5A 0xC3), some (.andAbs 0x5A 0xC3), some (.rolAbs 0x5A 0xC3),
    some (.rlaAbs 0x5A 0xC3)] := by decide

/-- Row 3x of the opcode map (R111), its operand bytes 0x5A and 0xC3. -/
theorem test_map_row_3 : [
    0x5A30, 0x5A31, 0x32, 0x5A33, 0x5A34, 0x5A35, 0x5A36, 0x5A37, 0x38, 0xC35A39, 0x3A, 0xC35A3B, 0xC35A3C, 0xC35A3D,
    0xC35A3E, 0xC35A3F].map (decodeTableWord 24) = [
    some (.bmiRel 0x5A), some (.andIndy 0x5A), some .undef32, some (.rlaIndy 0x5A), some (.nopZpx34 0x5A),
    some (.andZpx 0x5A), some (.rolZpx 0x5A), some (.rlaZpx 0x5A), some .sec, some (.andAbsy 0x5A 0xC3),
    some .nopImp3A, some (.rlaAbsy 0x5A 0xC3), some (.nopAbsx3C 0x5A 0xC3), some (.andAbsx 0x5A 0xC3),
    some (.rolAbsx 0x5A 0xC3), some (.rlaAbsx 0x5A 0xC3)] := by decide

/-- Row 4x of the opcode map (R111), its operand bytes 0x5A and 0xC3. -/
theorem test_map_row_4 : [
    0x40, 0x5A41, 0x42, 0x5A43, 0x5A44, 0x5A45, 0x5A46, 0x5A47, 0x48, 0x5A49, 0x4A, 0x4B, 0xC35A4C, 0xC35A4D,
    0xC35A4E, 0xC35A4F].map (decodeTableWord 24) = [
    some .rti, some (.eorIndx 0x5A), some .undef42, some (.sreIndx 0x5A), some (.nopZp44 0x5A), some (.eorZp 0x5A),
    some (.lsrZp 0x5A), some (.sreZp 0x5A), some .pha, some (.eorImm 0x5A), some .lsrAcc, some .undef4B,
    some (.jmpAbs 0x5A 0xC3), some (.eorAbs 0x5A 0xC3), some (.lsrAbs 0x5A 0xC3), some (.sreAbs 0x5A 0xC3)] := by decide

/-- Row 5x of the opcode map (R111), its operand bytes 0x5A and 0xC3. -/
theorem test_map_row_5 : [
    0x5A50, 0x5A51, 0x52, 0x5A53, 0x5A54, 0x5A55, 0x5A56, 0x5A57, 0x58, 0xC35A59, 0x5A, 0xC35A5B, 0xC35A5C, 0xC35A5D,
    0xC35A5E, 0xC35A5F].map (decodeTableWord 24) = [
    some (.bvcRel 0x5A), some (.eorIndy 0x5A), some .undef52, some (.sreIndy 0x5A), some (.nopZpx54 0x5A),
    some (.eorZpx 0x5A), some (.lsrZpx 0x5A), some (.sreZpx 0x5A), some .cli, some (.eorAbsy 0x5A 0xC3),
    some .nopImp5A, some (.sreAbsy 0x5A 0xC3), some (.nopAbsx5C 0x5A 0xC3), some (.eorAbsx 0x5A 0xC3),
    some (.lsrAbsx 0x5A 0xC3), some (.sreAbsx 0x5A 0xC3)] := by decide

/-- Row 6x of the opcode map (R111), its operand bytes 0x5A and 0xC3. -/
theorem test_map_row_6 : [
    0x60, 0x5A61, 0x62, 0x5A63, 0x5A64, 0x5A65, 0x5A66, 0x5A67, 0x68, 0x5A69, 0x6A, 0x6B, 0xC35A6C, 0xC35A6D,
    0xC35A6E, 0xC35A6F].map (decodeTableWord 24) = [
    some .rts, some (.adcIndx 0x5A), some .undef62, some (.rraIndx 0x5A), some (.nopZp64 0x5A), some (.adcZp 0x5A),
    some (.rorZp 0x5A), some (.rraZp 0x5A), some .pla, some (.adcImm 0x5A), some .rorAcc, some .undef6B,
    some (.jmpInd 0x5A 0xC3), some (.adcAbs 0x5A 0xC3), some (.rorAbs 0x5A 0xC3), some (.rraAbs 0x5A 0xC3)] := by decide

/-- Row 7x of the opcode map (R111), its operand bytes 0x5A and 0xC3. -/
theorem test_map_row_7 : [
    0x5A70, 0x5A71, 0x72, 0x5A73, 0x5A74, 0x5A75, 0x5A76, 0x5A77, 0x78, 0xC35A79, 0x7A, 0xC35A7B, 0xC35A7C, 0xC35A7D,
    0xC35A7E, 0xC35A7F].map (decodeTableWord 24) = [
    some (.bvsRel 0x5A), some (.adcIndy 0x5A), some .undef72, some (.rraIndy 0x5A), some (.nopZpx74 0x5A),
    some (.adcZpx 0x5A), some (.rorZpx 0x5A), some (.rraZpx 0x5A), some .sei, some (.adcAbsy 0x5A 0xC3),
    some .nopImp7A, some (.rraAbsy 0x5A 0xC3), some (.nopAbsx7C 0x5A 0xC3), some (.adcAbsx 0x5A 0xC3),
    some (.rorAbsx 0x5A 0xC3), some (.rraAbsx 0x5A 0xC3)] := by decide

/-- Row 8x of the opcode map (R111), its operand bytes 0x5A and 0xC3. -/
theorem test_map_row_8 : [
    0x5A80, 0x5A81, 0x5A82, 0x5A83, 0x5A84, 0x5A85, 0x5A86, 0x5A87, 0x88, 0x5A89, 0x8A, 0x8B, 0xC35A8C, 0xC35A8D,
    0xC35A8E, 0xC35A8F].map (decodeTableWord 24) = [
    some (.nopImm80 0x5A), some (.staIndx 0x5A), some (.nopImm82 0x5A), some (.saxIndx 0x5A), some (.styZp 0x5A),
    some (.staZp 0x5A), some (.stxZp 0x5A), some (.saxZp 0x5A), some .dey, some (.nopImm89 0x5A), some .txa,
    some .undef8B, some (.styAbs 0x5A 0xC3), some (.staAbs 0x5A 0xC3), some (.stxAbs 0x5A 0xC3),
    some (.saxAbs 0x5A 0xC3)] := by decide

/-- Row 9x of the opcode map (R111), its operand bytes 0x5A and 0xC3. -/
theorem test_map_row_9 : [
    0x5A90, 0x5A91, 0x92, 0x93, 0x5A94, 0x5A95, 0x5A96, 0x5A97, 0x98, 0xC35A99, 0x9A, 0x9B, 0x9C, 0xC35A9D, 0x9E,
    0x9F].map (decodeTableWord 24) = [
    some (.bccRel 0x5A), some (.staIndy 0x5A), some .undef92, some .undef93, some (.styZpx 0x5A), some (.staZpx 0x5A),
    some (.stxZpy 0x5A), some (.saxZpy 0x5A), some .tya, some (.staAbsy 0x5A 0xC3), some .txs, some .undef9B,
    some .undef9C, some (.staAbsx 0x5A 0xC3), some .undef9E, some .undef9F] := by decide

/-- Row Ax of the opcode map (R111), its operand bytes 0x5A and 0xC3. -/
theorem test_map_row_A : [
    0x5AA0, 0x5AA1, 0x5AA2, 0x5AA3, 0x5AA4, 0x5AA5, 0x5AA6, 0x5AA7, 0xA8, 0x5AA9, 0xAA, 0xAB, 0xC35AAC, 0xC35AAD,
    0xC35AAE, 0xC35AAF].map (decodeTableWord 24) = [
    some (.ldyImm 0x5A), some (.ldaIndx 0x5A), some (.ldxImm 0x5A), some (.laxIndx 0x5A), some (.ldyZp 0x5A),
    some (.ldaZp 0x5A), some (.ldxZp 0x5A), some (.laxZp 0x5A), some .tay, some (.ldaImm 0x5A), some .tax,
    some .undefAB, some (.ldyAbs 0x5A 0xC3), some (.ldaAbs 0x5A 0xC3), some (.ldxAbs 0x5A 0xC3),
    some (.laxAbs 0x5A 0xC3)] := by decide

/-- Row Bx of the opcode map (R111), its operand bytes 0x5A and 0xC3. -/
theorem test_map_row_B : [
    0x5AB0, 0x5AB1, 0xB2, 0x5AB3, 0x5AB4, 0x5AB5, 0x5AB6, 0x5AB7, 0xB8, 0xC35AB9, 0xBA, 0xBB, 0xC35ABC, 0xC35ABD,
    0xC35ABE, 0xC35ABF].map (decodeTableWord 24) = [
    some (.bcsRel 0x5A), some (.ldaIndy 0x5A), some .undefB2, some (.laxIndy 0x5A), some (.ldyZpx 0x5A),
    some (.ldaZpx 0x5A), some (.ldxZpy 0x5A), some (.laxZpy 0x5A), some .clv, some (.ldaAbsy 0x5A 0xC3), some .tsx,
    some .undefBB, some (.ldyAbsx 0x5A 0xC3), some (.ldaAbsx 0x5A 0xC3), some (.ldxAbsy 0x5A 0xC3),
    some (.laxAbsy 0x5A 0xC3)] := by decide

/-- Row Cx of the opcode map (R111), its operand bytes 0x5A and 0xC3. -/
theorem test_map_row_C : [
    0x5AC0, 0x5AC1, 0x5AC2, 0x5AC3, 0x5AC4, 0x5AC5, 0x5AC6, 0x5AC7, 0xC8, 0x5AC9, 0xCA, 0xCB, 0xC35ACC, 0xC35ACD,
    0xC35ACE, 0xC35ACF].map (decodeTableWord 24) = [
    some (.cpyImm 0x5A), some (.cmpIndx 0x5A), some (.nopImmC2 0x5A), some (.dcpIndx 0x5A), some (.cpyZp 0x5A),
    some (.cmpZp 0x5A), some (.decZp 0x5A), some (.dcpZp 0x5A), some .iny, some (.cmpImm 0x5A), some .dex,
    some .undefCB, some (.cpyAbs 0x5A 0xC3), some (.cmpAbs 0x5A 0xC3), some (.decAbs 0x5A 0xC3),
    some (.dcpAbs 0x5A 0xC3)] := by decide

/-- Row Dx of the opcode map (R111), its operand bytes 0x5A and 0xC3. -/
theorem test_map_row_D : [
    0x5AD0, 0x5AD1, 0xD2, 0x5AD3, 0x5AD4, 0x5AD5, 0x5AD6, 0x5AD7, 0xD8, 0xC35AD9, 0xDA, 0xC35ADB, 0xC35ADC, 0xC35ADD,
    0xC35ADE, 0xC35ADF].map (decodeTableWord 24) = [
    some (.bneRel 0x5A), some (.cmpIndy 0x5A), some .undefD2, some (.dcpIndy 0x5A), some (.nopZpxD4 0x5A),
    some (.cmpZpx 0x5A), some (.decZpx 0x5A), some (.dcpZpx 0x5A), some .cld, some (.cmpAbsy 0x5A 0xC3),
    some .nopImpDA, some (.dcpAbsy 0x5A 0xC3), some (.nopAbsxDC 0x5A 0xC3), some (.cmpAbsx 0x5A 0xC3),
    some (.decAbsx 0x5A 0xC3), some (.dcpAbsx 0x5A 0xC3)] := by decide

/-- Row Ex of the opcode map (R111), its operand bytes 0x5A and 0xC3. -/
theorem test_map_row_E : [
    0x5AE0, 0x5AE1, 0x5AE2, 0x5AE3, 0x5AE4, 0x5AE5, 0x5AE6, 0x5AE7, 0xE8, 0x5AE9, 0xEA, 0x5AEB, 0xC35AEC, 0xC35AED,
    0xC35AEE, 0xC35AEF].map (decodeTableWord 24) = [
    some (.cpxImm 0x5A), some (.sbcIndx 0x5A), some (.nopImmE2 0x5A), some (.isbIndx 0x5A), some (.cpxZp 0x5A),
    some (.sbcZp 0x5A), some (.incZp 0x5A), some (.isbZp 0x5A), some .inx, some (.sbcImm 0x5A), some .nop,
    some (.sbcImmEB 0x5A), some (.cpxAbs 0x5A 0xC3), some (.sbcAbs 0x5A 0xC3), some (.incAbs 0x5A 0xC3),
    some (.isbAbs 0x5A 0xC3)] := by decide

/-- Row Fx of the opcode map (R111), its operand bytes 0x5A and 0xC3. -/
theorem test_map_row_F : [
    0x5AF0, 0x5AF1, 0xF2, 0x5AF3, 0x5AF4, 0x5AF5, 0x5AF6, 0x5AF7, 0xF8, 0xC35AF9, 0xFA, 0xC35AFB, 0xC35AFC, 0xC35AFD,
    0xC35AFE, 0xC35AFF].map (decodeTableWord 24) = [
    some (.beqRel 0x5A), some (.sbcIndy 0x5A), some .undefF2, some (.isbIndy 0x5A), some (.nopZpxF4 0x5A),
    some (.sbcZpx 0x5A), some (.incZpx 0x5A), some (.isbZpx 0x5A), some .sed, some (.sbcAbsy 0x5A 0xC3),
    some .nopImpFA, some (.isbAbsy 0x5A 0xC3), some (.nopAbsxFC 0x5A 0xC3), some (.sbcAbsx 0x5A 0xC3),
    some (.incAbsx 0x5A 0xC3), some (.isbAbsx 0x5A 0xC3)] := by decide

/-- R102: no byte, or an instruction cut short, is refused by name. -/
theorem test_no_byte_is_refused : (decode []).toOption = none := by decide
theorem test_cut_short_is_refused : (decode [0xAD, 0x00]).toOption = none := by decide

/-- R100: a third byte is left for the next instruction. -/
theorem test_rest_is_left : (decode [0xA9, 0x80, 0xEA]).toOption = some (.ldaImm 0x80, [0xEA]) := by decide

/-! ## One step of an instruction

The states and the results are those of spec/95_test_vectors.md: the instruction at 0x8000, S = 0xFD, and the vectors
0x9000, 0x8000 and 0xA000. -/

/-- A, X, Y, S, the status byte without bits 5 and 4, and the PC. -/
structure Regs where
  a : Byte
  x : Byte
  y : Byte
  sp : Byte
  status : Byte
  pc : Word
deriving DecidableEq, Repr

def regs (t : State) : Regs :=
  ⟨t.cpu.a, t.cpu.x, t.cpu.y, t.cpu.sp, t.cpu.flags.pack false &&& 0xCF, t.cpu.pc⟩

/-- The vectors in the program ROM, everything else as at power-on, no reset pending. -/
def base : State :=
  { State.reset with
    cpu := { State.reset.cpu with pc := 0x8000, sp := 0xFD, resetPending := false }
    cart := { State.reset.cart with prg := [(0x3FFB, 0x90), (0x3FFD, 0x80), (0x3FFF, 0xA0)] } }

def start (a x y sp status : Byte) (pc : Word) (ram : Memory) : State :=
  { base with cpu := { base.cpu with a := a, x := x, y := y, sp := sp, pc := pc, flags := Flags.unpack status }, ram := ram }

/-- One step with the instruction planted. -/
def run (s : State) (nbits w : Nat) : Option State :=
  match step (s.withFetchWord nbits w) with
  | .next t => some t
  | .fault _ => none
  | .refused _ => none

/-- The fault of that step. -/
def runFault (s : State) (nbits w : Nat) : Option FaultKind :=
  match step (s.withFetchWord nbits w) with
  | .next _ => none
  | .fault (.fatal k _) => some k
  | .refused _ => none

/-- V-LS-1 (R140, R122, R27). -/
theorem test_ldaImm_v_ls_1 :
    (run (start 0x00 0x00 0x00 0xFD 0x00 0x8000 []) 16 0x80A9).map
      (fun t => (regs t, t.drv.acc)) =
      some (⟨0x80, 0x00, 0x00, 0xFD, 0x80, 0x8002⟩, 2) := by decide

/-- A3 (R124, R140). -/
theorem test_ldaZpx_a3 :
    (run (start 0x00 0xFF 0x00 0xFD 0x00 0x8000 [(0xFE, 0x42), (0x1FE, 0x99)]) 16 0xFFB5).map
      (fun t => (regs t, t.drv.acc)) =
      some (⟨0x42, 0xFF, 0x00, 0xFD, 0x00, 0x8002⟩, 4) := by decide

/-- V-LS-3 (R141, R125). -/
theorem test_ldxZpy_v_ls_3 :
    (run (start 0x00 0x00 0x20 0xFD 0x00 0x8000 [(0x10, 0x7F)]) 16 0xF0B6).map
      (fun t => (regs t, t.drv.acc)) =
      some (⟨0x00, 0x7F, 0x20, 0xFD, 0x00, 0x8002⟩, 4) := by decide

/-- V-LS-4 (R142, R127, R133). -/
theorem test_ldyAbsx_v_ls_4 :
    (run (start 0x00 0x20 0x00 0xFD 0x00 0x8000 [(0x310, 0x01)]) 24 0x02F0BC).map
      (fun t => (regs t, t.drv.acc)) =
      some (⟨0x00, 0x20, 0x01, 0xFD, 0x00, 0x8003⟩, 5) := by decide

/-- V-LS-6 (R143, R128, R370). -/
theorem test_staAbsy_v_ls_6 :
    (run (start 0x55 0x00 0x20 0xFD 0x00 0x8000 []) 24 0x02F099).map
      (fun t => (regs t, t.drv.acc, t.ram.read 0x310)) =
      some (⟨0x55, 0x00, 0x20, 0xFD, 0x00, 0x8003⟩, 5, 0x55) := by decide

/-- V-LS-7 (R143, R131, R370). -/
theorem test_staIndy_v_ls_7 :
    (run (start 0x66 0x00 0x10 0xFD 0x00 0x8000 [(0x40, 0xF8), (0x41, 0x02)]) 16 0x4091).map
      (fun t => (regs t, t.drv.acc, t.ram.read 0x308)) =
      some (⟨0x66, 0x00, 0x10, 0xFD, 0x00, 0x8002⟩, 6, 0x66) := by decide

/-- V-LS-8 (R144, R123). -/
theorem test_stxZp_v_ls_8 :
    (run (start 0x00 0x99 0x00 0xFD 0x00 0x8000 []) 16 0x1086).map
      (fun t => (regs t, t.drv.acc, t.ram.read 0x10)) =
      some (⟨0x00, 0x99, 0x00, 0xFD, 0x00, 0x8002⟩, 3, 0x99) := by decide

/-- V-LS-9 (R145, R62). -/
theorem test_styAbs_v_ls_9 :
    (run (start 0x00 0x00 0x77 0xFD 0x00 0x8000 []) 24 0x08008C).map
      (fun t => (regs t, t.drv.acc, t.ram.read 0x0)) =
      some (⟨0x00, 0x00, 0x77, 0xFD, 0x00, 0x8003⟩, 4, 0x77) := by decide

/-- V-LS-10 (R146). -/
theorem test_tax_v_ls_10 :
    (run (start 0x00 0x12 0x00 0xFD 0x00 0x8000 []) 8 0xAA).map
      (fun t => (regs t, t.drv.acc)) =
      some (⟨0x00, 0x00, 0x00, 0xFD, 0x02, 0x8001⟩, 2) := by decide

/-- V-LS-11 (R147). -/
theorem test_tay_v_ls_11 :
    (run (start 0xF0 0x00 0x00 0xFD 0x00 0x8000 []) 8 0xA8).map
      (fun t => (regs t, t.drv.acc)) =
      some (⟨0xF0, 0x00, 0xF0, 0xFD, 0x80, 0x8001⟩, 2) := by decide

/-- V-LS-12 (R148). -/
theorem test_txa_v_ls_12 :
    (run (start 0x01 0x80 0x00 0xFD 0x00 0x8000 []) 8 0x8A).map
      (fun t => (regs t, t.drv.acc)) =
      some (⟨0x80, 0x80, 0x00, 0xFD, 0x80, 0x8001⟩, 2) := by decide

/-- V-LS-13 (R149). -/
theorem test_tya_v_ls_13 :
    (run (start 0x01 0x00 0x00 0xFD 0x00 0x8000 []) 8 0x98).map
      (fun t => (regs t, t.drv.acc)) =
      some (⟨0x00, 0x00, 0x00, 0xFD, 0x02, 0x8001⟩, 2) := by decide

/-- V-LS-14 (R150). -/
theorem test_tsx_v_ls_14 :
    (run (start 0x00 0x01 0x00 0x80 0x00 0x8000 []) 8 0xBA).map
      (fun t => (regs t, t.drv.acc)) =
      some (⟨0x00, 0x80, 0x00, 0x80, 0x80, 0x8001⟩, 2) := by decide

/-- V-LS-15 (R151). -/
theorem test_txs_v_ls_15 :
    (run (start 0x00 0x00 0x00 0xFD 0x80 0x8000 []) 8 0x9A).map
      (fun t => (regs t, t.drv.acc)) =
      some (⟨0x00, 0x00, 0x00, 0x00, 0x80, 0x8001⟩, 2) := by decide

/-- A4 (R161, R163). -/
theorem test_adcImm_a4 :
    (run (start 0x7F 0x00 0x00 0xFD 0x00 0x8000 []) 16 0x0169).map
      (fun t => (regs t, t.drv.acc)) =
      some (⟨0x80, 0x00, 0x00, 0xFD, 0xC0, 0x8002⟩, 2) := by decide

/-- V-AR-10 (R178, R163). -/
theorem test_adcImm_v_ar_10 :
    (run (start 0x09 0x00 0x00 0xFD 0x08 0x8000 []) 16 0x0169).map
      (fun t => (regs t, t.drv.acc)) =
      some (⟨0x0A, 0x00, 0x00, 0xFD, 0x08, 0x8002⟩, 2) := by decide

/-- A5 (R161, R164). -/
theorem test_sbcImm_a5 :
    (run (start 0x05 0x00 0x00 0xFD 0x01 0x8000 []) 16 0x07E9).map
      (fun t => (regs t, t.drv.acc)) =
      some (⟨0xFE, 0x00, 0x00, 0xFD, 0x80, 0x8002⟩, 2) := by decide

/-- V-AR-9 (R161, R164). -/
theorem test_sbcImm_v_ar_9 :
    (run (start 0x80 0x00 0x00 0xFD 0x01 0x8000 []) 16 0x01E9).map
      (fun t => (regs t, t.drv.acc)) =
      some (⟨0x7F, 0x00, 0x00, 0xFD, 0x41, 0x8002⟩, 2) := by decide

/-- V-LG-1 (R165). -/
theorem test_andImm_v_lg_1 :
    (run (start 0xF0 0x00 0x00 0xFD 0x00 0x8000 []) 16 0x0F29).map
      (fun t => (regs t, t.drv.acc)) =
      some (⟨0x00, 0x00, 0x00, 0xFD, 0x02, 0x8002⟩, 2) := by decide

/-- V-LG-2 (R166). -/
theorem test_oraImm_v_lg_2 :
    (run (start 0x01 0x00 0x00 0xFD 0x00 0x8000 []) 16 0x8009).map
      (fun t => (regs t, t.drv.acc)) =
      some (⟨0x81, 0x00, 0x00, 0xFD, 0x80, 0x8002⟩, 2) := by decide

/-- V-LG-3 (R167). -/
theorem test_eorImm_v_lg_3 :
    (run (start 0xFF 0x00 0x00 0xFD 0x00 0x8000 []) 16 0xFF49).map
      (fun t => (regs t, t.drv.acc)) =
      some (⟨0x00, 0x00, 0x00, 0xFD, 0x02, 0x8002⟩, 2) := by decide

/-- V-LG-4 (R162, R168). -/
theorem test_cmpImm_v_lg_4 :
    (run (start 0x40 0x00 0x00 0xFD 0x00 0x8000 []) 16 0x40C9).map
      (fun t => (regs t, t.drv.acc)) =
      some (⟨0x40, 0x00, 0x00, 0xFD, 0x03, 0x8002⟩, 2) := by decide

/-- V-LG-5 (R162, R168). -/
theorem test_cmpImm_v_lg_5 :
    (run (start 0x40 0x00 0x00 0xFD 0x00 0x8000 []) 16 0x41C9).map
      (fun t => (regs t, t.drv.acc)) =
      some (⟨0x40, 0x00, 0x00, 0xFD, 0x80, 0x8002⟩, 2) := by decide

/-- V-LG-7 (R162, R169). -/
theorem test_cpxImm_v_lg_7 :
    (run (start 0x00 0x00 0x00 0xFD 0x00 0x8000 []) 16 0xFFE0).map
      (fun t => (regs t, t.drv.acc)) =
      some (⟨0x00, 0x00, 0x00, 0xFD, 0x00, 0x8002⟩, 2) := by decide

/-- V-LG-8 (R162, R170). -/
theorem test_cpyImm_v_lg_8 :
    (run (start 0x00 0x00 0x20 0xFD 0x80 0x8000 []) 16 0x10C0).map
      (fun t => (regs t, t.drv.acc)) =
      some (⟨0x00, 0x00, 0x20, 0xFD, 0x01, 0x8002⟩, 2) := by decide

/-- V-LG-9 (R171). -/
theorem test_bitZp_v_lg_9 :
    (run (start 0x01 0x00 0x00 0xFD 0x00 0x8000 [(0x10, 0xC0)]) 16 0x1024).map
      (fun t => (regs t, t.drv.acc)) =
      some (⟨0x01, 0x00, 0x00, 0xFD, 0xC2, 0x8002⟩, 3) := by decide

/-- V-LG-11 (R172, R190). -/
theorem test_incZp_v_lg_11 :
    (run (start 0x00 0x00 0x00 0xFD 0x00 0x8000 [(0x10, 0xFF)]) 16 0x10E6).map
      (fun t => (regs t, t.drv.acc, t.ram.read 0x10)) =
      some (⟨0x00, 0x00, 0x00, 0xFD, 0x02, 0x8002⟩, 5, 0x00) := by decide

/-- V-LG-12 (R173, R190). -/
theorem test_decAbs_v_lg_12 :
    (run (start 0x00 0x00 0x00 0xFD 0x00 0x8000 []) 24 0x0200CE).map
      (fun t => (regs t, t.drv.acc, t.ram.read 0x200)) =
      some (⟨0x00, 0x00, 0x00, 0xFD, 0x80, 0x8003⟩, 6, 0xFF) := by decide

/-- V-LG-13 (R174). -/
theorem test_inx_v_lg_13 :
    (run (start 0x00 0xFF 0x00 0xFD 0x00 0x8000 []) 8 0xE8).map
      (fun t => (regs t, t.drv.acc)) =
      some (⟨0x00, 0x00, 0x00, 0xFD, 0x02, 0x8001⟩, 2) := by decide

/-- V-LG-14 (R175). -/
theorem test_iny_v_lg_14 :
    (run (start 0x00 0x00 0x7F 0xFD 0x00 0x8000 []) 8 0xC8).map
      (fun t => (regs t, t.drv.acc)) =
      some (⟨0x00, 0x00, 0x80, 0xFD, 0x80, 0x8001⟩, 2) := by decide

/-- V-LG-15 (R176). -/
theorem test_dex_v_lg_15 :
    (run (start 0x00 0x01 0x00 0xFD 0x00 0x8000 []) 8 0xCA).map
      (fun t => (regs t, t.drv.acc)) =
      some (⟨0x00, 0x00, 0x00, 0xFD, 0x02, 0x8001⟩, 2) := by decide

/-- V-LG-16 (R177). -/
theorem test_dey_v_lg_16 :
    (run (start 0x00 0x00 0x00 0xFD 0x00 0x8000 []) 8 0x88).map
      (fun t => (regs t, t.drv.acc)) =
      some (⟨0x00, 0x00, 0xFF, 0xFD, 0x80, 0x8001⟩, 2) := by decide

/-- V-SH-1 (R191, R121). -/
theorem test_aslAcc_v_sh_1 :
    (run (start 0x80 0x00 0x00 0xFD 0x00 0x8000 []) 8 0x0A).map
      (fun t => (regs t, t.drv.acc)) =
      some (⟨0x00, 0x00, 0x00, 0xFD, 0x03, 0x8001⟩, 2) := by decide

/-- V-SH-7 (R191, R190). -/
theorem test_aslZp_v_sh_7 :
    (run (start 0x00 0x00 0x00 0xFD 0x00 0x8000 [(0x10, 0xC3)]) 16 0x1006).map
      (fun t => (regs t, t.drv.acc, t.ram.read 0x10)) =
      some (⟨0x00, 0x00, 0x00, 0xFD, 0x81, 0x8002⟩, 5, 0x86) := by decide

/-- V-SH-8 (R192, R190). -/
theorem test_lsrAbsx_v_sh_8 :
    (run (start 0x00 0x05 0x00 0xFD 0x00 0x8000 [(0x205, 0x03)]) 24 0x02005E).map
      (fun t => (regs t, t.drv.acc, t.ram.read 0x205)) =
      some (⟨0x00, 0x05, 0x00, 0xFD, 0x01, 0x8003⟩, 7, 0x01) := by decide

/-- V-SH-9 (R193, R124). -/
theorem test_rolZpx_v_sh_9 :
    (run (start 0x00 0x02 0x00 0xFD 0x01 0x8000 [(0x1, 0x7F)]) 16 0xFF36).map
      (fun t => (regs t, t.drv.acc, t.ram.read 0x1)) =
      some (⟨0x00, 0x02, 0x00, 0xFD, 0x80, 0x8002⟩, 6, 0xFF) := by decide

/-- V-SH-5 (R194). -/
theorem test_rorAcc_v_sh_5 :
    (run (start 0x01 0x00 0x00 0xFD 0x01 0x8000 []) 8 0x6A).map
      (fun t => (regs t, t.drv.acc)) =
      some (⟨0x80, 0x00, 0x00, 0xFD, 0x81, 0x8001⟩, 2) := by decide

/-- V-SH-10 (R194, R190). -/
theorem test_rorAbs_v_sh_10 :
    (run (start 0x00 0x00 0x00 0xFD 0x00 0x8000 []) 24 0x02006E).map
      (fun t => (regs t, t.drv.acc)) =
      some (⟨0x00, 0x00, 0x00, 0xFD, 0x02, 0x8003⟩, 6) := by decide

/-- V-BR-6 (R201, R132). -/
theorem test_bplRel_v_br_6 :
    (run (start 0x00 0x00 0x00 0xFD 0x00 0x8100 []) 16 0x8010).map
      (fun t => (regs t, t.drv.acc)) =
      some (⟨0x00, 0x00, 0x00, 0xFD, 0x00, 0x8082⟩, 2) := by decide

/-- V-BR-8 (R202). -/
theorem test_bmiRel_v_br_8 :
    (run (start 0x00 0x00 0x00 0xFD 0x80 0x8000 []) 16 0x0030).map
      (fun t => (regs t, t.drv.acc)) =
      some (⟨0x00, 0x00, 0x00, 0xFD, 0x80, 0x8002⟩, 2) := by decide

/-- V-BR-9 (R203). -/
theorem test_bvcRel_v_br_9 :
    (run (start 0x00 0x00 0x00 0xFD 0x40 0x8000 []) 16 0x0250).map
      (fun t => (regs t, t.drv.acc)) =
      some (⟨0x00, 0x00, 0x00, 0xFD, 0x40, 0x8002⟩, 2) := by decide

/-- V-BR-10 (R204). -/
theorem test_bvsRel_v_br_10 :
    (run (start 0x00 0x00 0x00 0xFD 0x40 0x8000 []) 16 0x0270).map
      (fun t => (regs t, t.drv.acc)) =
      some (⟨0x00, 0x00, 0x00, 0xFD, 0x40, 0x8004⟩, 2) := by decide

/-- V-BR-11 (R205). -/
theorem test_bccRel_v_br_11 :
    (run (start 0x00 0x00 0x00 0xFD 0x01 0x8000 []) 16 0x0290).map
      (fun t => (regs t, t.drv.acc)) =
      some (⟨0x00, 0x00, 0x00, 0xFD, 0x01, 0x8002⟩, 2) := by decide

/-- V-BR-12 (R206). -/
theorem test_bcsRel_v_br_12 :
    (run (start 0x00 0x00 0x00 0xFD 0x01 0x8000 []) 16 0x02B0).map
      (fun t => (regs t, t.drv.acc)) =
      some (⟨0x00, 0x00, 0x00, 0xFD, 0x01, 0x8004⟩, 2) := by decide

/-- V-BR-1 (R200, R207, R132). -/
theorem test_bneRel_v_br_1 :
    (run (start 0x00 0x00 0x00 0xFD 0x00 0x8000 []) 16 0x05D0).map
      (fun t => (regs t, t.drv.acc)) =
      some (⟨0x00, 0x00, 0x00, 0xFD, 0x00, 0x8007⟩, 2) := by decide

/-- V-BR-3 (R208, R132, R372). -/
theorem test_beqRel_v_br_3 :
    (run (start 0x00 0x00 0x00 0xFD 0x02 0x8100 []) 16 0xFCF0).map
      (fun t => (regs t, t.drv.acc)) =
      some (⟨0x00, 0x00, 0x00, 0xFD, 0x02, 0x80FE⟩, 2) := by decide

/-- V-CF-1 (R209, R126). -/
theorem test_jmpAbs_v_cf_1 :
    (run (start 0x00 0x00 0x00 0xFD 0x00 0x8000 []) 24 0x12344C).map
      (fun t => (regs t, t.drv.acc)) =
      some (⟨0x00, 0x00, 0x00, 0xFD, 0x00, 0x1234⟩, 3) := by decide

/-- V-CF-2 (R209, R129, R134). -/
theorem test_jmpInd_v_cf_2 :
    (run (start 0x00 0x00 0x00 0xFD 0x00 0x8000 [(0x200, 0x90), (0x300, 0x12)]) 24 0x02FF6C).map
      (fun t => (regs t, t.drv.acc)) =
      some (⟨0x00, 0x00, 0x00, 0xFD, 0x00, 0x9000⟩, 5) := by decide

/-- V-CF-3 (R210). -/
theorem test_jsrAbs_v_cf_3 :
    (run (start 0x00 0x00 0x00 0xFD 0x00 0x8000 []) 24 0x900020).map
      (fun t => (regs t, t.drv.acc, t.ram.read 0x1FC, t.ram.read 0x1FD)) =
      some (⟨0x00, 0x00, 0x00, 0xFB, 0x00, 0x9000⟩, 6, 0x02, 0x80) := by decide

/-- V-CF-7 (R210, R28). -/
theorem test_jsrAbs_v_cf_7 :
    (run (start 0x00 0x00 0x00 0x00 0x00 0x8000 []) 24 0x900020).map
      (fun t => (regs t, t.drv.acc, t.ram.read 0x100, t.ram.read 0x1FF)) =
      some (⟨0x00, 0x00, 0x00, 0xFE, 0x00, 0x9000⟩, 6, 0x80, 0x02) := by decide

/-- V-CF-4 (R211). -/
theorem test_rts_v_cf_4 :
    (run (start 0x00 0x00 0x00 0xFB 0x00 0x8000 [(0x1FC, 0x02), (0x1FD, 0x80)]) 8 0x60).map
      (fun t => (regs t, t.drv.acc)) =
      some (⟨0x00, 0x00, 0x00, 0xFD, 0x00, 0x8003⟩, 6) := by decide

/-- V-CF-8 (R211, R29). -/
theorem test_rts_v_cf_8 :
    (run (start 0x00 0x00 0x00 0xFF 0x00 0x8000 [(0x100, 0xFF), (0x101, 0x8F)]) 8 0x60).map
      (fun t => (regs t, t.drv.acc)) =
      some (⟨0x00, 0x00, 0x00, 0x01, 0x00, 0x9000⟩, 6) := by decide

/-- V-CF-5 (R212, R25). -/
theorem test_rti_v_cf_5 :
    (run ((start 0x00 0x00 0x00 0xFA 0x00 0x8000 [(0x1FB, 0xF3), (0x1FC, 0x34), (0x1FD, 0x12)]).setServicing true) 8 0x40).map
      (fun t => (regs t, t.drv.acc, t.cpu.servicing)) =
      some (⟨0x00, 0x00, 0x00, 0xFD, 0xC3, 0x1234⟩, 6, false) := by decide

/-- V-CF-6 (R213). -/
theorem test_brk_v_cf_6 :
    (run (start 0x00 0x00 0x00 0xFD 0x01 0x8000 []) 8 0x00).map
      (fun t => (regs t, t.drv.acc, t.ram.read 0x1FB, t.ram.read 0x1FC, t.ram.read 0x1FD)) =
      some (⟨0x00, 0x00, 0x00, 0xFA, 0x05, 0xA000⟩, 7, 0x31, 0x02, 0x80) := by decide

/-- V-ST-1 (R220, R28). -/
theorem test_pha_v_st_1 :
    (run (start 0x5A 0x00 0x00 0xFD 0x00 0x8000 []) 8 0x48).map
      (fun t => (regs t, t.drv.acc, t.ram.read 0x1FD)) =
      some (⟨0x5A, 0x00, 0x00, 0xFC, 0x00, 0x8001⟩, 3, 0x5A) := by decide

/-- V-ST-3 (R221, R24). -/
theorem test_php_v_st_3 :
    (run (start 0x00 0x00 0x00 0xFD 0x81 0x8000 []) 8 0x08).map
      (fun t => (regs t, t.drv.acc, t.ram.read 0x1FD)) =
      some (⟨0x00, 0x00, 0x00, 0xFC, 0x81, 0x8001⟩, 3, 0xB1) := by decide

/-- V-ST-4 (R222). -/
theorem test_pla_v_st_4 :
    (run (start 0x00 0x00 0x00 0xFC 0x00 0x8000 []) 8 0x68).map
      (fun t => (regs t, t.drv.acc)) =
      some (⟨0x00, 0x00, 0x00, 0xFD, 0x02, 0x8001⟩, 4) := by decide

/-- V-ST-5 (R223, R25). -/
theorem test_plp_v_st_5 :
    (run (start 0x00 0x00 0x00 0xFC 0x00 0x8000 [(0x1FD, 0xFF)]) 8 0x28).map
      (fun t => (regs t, t.drv.acc)) =
      some (⟨0x00, 0x00, 0x00, 0xFD, 0xCF, 0x8001⟩, 4) := by decide

/-- V-ST-6 (R223, R25). -/
theorem test_plp_v_st_6 :
    (run (start 0x00 0x00 0x00 0xFC 0xCF 0x8000 [(0x1FD, 0x30)]) 8 0x28).map
      (fun t => (regs t, t.drv.acc)) =
      some (⟨0x00, 0x00, 0x00, 0xFD, 0x00, 0x8001⟩, 4) := by decide

/-- V-ST-7 (R224). -/
theorem test_clc_v_st_7 :
    (run (start 0x00 0x00 0x00 0xFD 0x01 0x8000 []) 8 0x18).map
      (fun t => (regs t, t.drv.acc)) =
      some (⟨0x00, 0x00, 0x00, 0xFD, 0x00, 0x8001⟩, 2) := by decide

/-- V-ST-8 (R228). -/
theorem test_sec_v_st_8 :
    (run (start 0x00 0x00 0x00 0xFD 0x00 0x8000 []) 8 0x38).map
      (fun t => (regs t, t.drv.acc)) =
      some (⟨0x00, 0x00, 0x00, 0xFD, 0x01, 0x8001⟩, 2) := by decide

/-- V-ST-9 (R225). -/
theorem test_cld_v_st_9 :
    (run (start 0x00 0x00 0x00 0xFD 0x08 0x8000 []) 8 0xD8).map
      (fun t => (regs t, t.drv.acc)) =
      some (⟨0x00, 0x00, 0x00, 0xFD, 0x00, 0x8001⟩, 2) := by decide

/-- V-ST-10 (R229). -/
theorem test_sed_v_st_10 :
    (run (start 0x00 0x00 0x00 0xFD 0x00 0x8000 []) 8 0xF8).map
      (fun t => (regs t, t.drv.acc)) =
      some (⟨0x00, 0x00, 0x00, 0xFD, 0x08, 0x8001⟩, 2) := by decide

/-- V-ST-11 (R226). -/
theorem test_cli_v_st_11 :
    (run (start 0x00 0x00 0x00 0xFD 0x04 0x8000 []) 8 0x58).map
      (fun t => (regs t, t.drv.acc)) =
      some (⟨0x00, 0x00, 0x00, 0xFD, 0x00, 0x8001⟩, 2) := by decide

/-- V-ST-12 (R230). -/
theorem test_sei_v_st_12 :
    (run (start 0x00 0x00 0x00 0xFD 0x00 0x8000 []) 8 0x78).map
      (fun t => (regs t, t.drv.acc)) =
      some (⟨0x00, 0x00, 0x00, 0xFD, 0x04, 0x8001⟩, 2) := by decide

/-- V-ST-13 (R227). -/
theorem test_clv_v_st_13 :
    (run (start 0x00 0x00 0x00 0xFD 0x40 0x8000 []) 8 0xB8).map
      (fun t => (regs t, t.drv.acc)) =
      some (⟨0x00, 0x00, 0x00, 0xFD, 0x00, 0x8001⟩, 2) := by decide

/-- V-ST-14 (R231). -/
theorem test_nop_v_st_14 :
    (run (start 0x00 0x00 0x00 0xFD 0x82 0x8000 []) 8 0xEA).map
      (fun t => (regs t, t.drv.acc)) =
      some (⟨0x00, 0x00, 0x00, 0xFD, 0x82, 0x8001⟩, 2) := by decide

/-- V-UD-2 (R241, R133). -/
theorem test_laxAbsy_v_ud_2 :
    (run (start 0x00 0x00 0x20 0xFD 0x00 0x8000 []) 24 0x02F0BF).map
      (fun t => (regs t, t.drv.acc)) =
      some (⟨0x00, 0x00, 0x20, 0xFD, 0x02, 0x8003⟩, 5) := by decide

/-- V-UD-4 (R241, R130). -/
theorem test_laxIndx_v_ud_4 :
    (run (start 0x00 0x01 0x00 0xFD 0x00 0x8000 [(0x1, 0x02), (0x200, 0x11)]) 16 0xFFA3).map
      (fun t => (regs t, t.drv.acc)) =
      some (⟨0x11, 0x11, 0x00, 0xFD, 0x00, 0x8002⟩, 6) := by decide

/-- V-UD-6 (R242). -/
theorem test_saxZp_v_ud_6 :
    (run (start 0xF0 0x3C 0x00 0xFD 0x00 0x8000 []) 16 0x1087).map
      (fun t => (regs t, t.drv.acc, t.ram.read 0x10)) =
      some (⟨0xF0, 0x3C, 0x00, 0xFD, 0x00, 0x8002⟩, 3, 0x30) := by decide

/-- V-UD-7 (R242, R125). -/
theorem test_saxZpy_v_ud_7 :
    (run (start 0xFF 0x0F 0xF5 0xFD 0x00 0x8000 []) 16 0x1097).map
      (fun t => (regs t, t.drv.acc, t.ram.read 0x5)) =
      some (⟨0xFF, 0x0F, 0xF5, 0xFD, 0x00, 0x8002⟩, 4, 0x0F) := by decide

/-- V-UD-8 (R243). -/
theorem test_sbcImmEB_v_ud_8 :
    (run (start 0x00 0x00 0x00 0xFD 0x01 0x8000 []) 16 0x01EB).map
      (fun t => (regs t, t.drv.acc)) =
      some (⟨0xFF, 0x00, 0x00, 0xFD, 0x80, 0x8002⟩, 2) := by decide

/-- V-UD-9 (R244). -/
theorem test_dcpZp_v_ud_9 :
    (run (start 0x40 0x00 0x00 0xFD 0x00 0x8000 [(0x10, 0x41)]) 16 0x10C7).map
      (fun t => (regs t, t.drv.acc, t.ram.read 0x10)) =
      some (⟨0x40, 0x00, 0x00, 0xFD, 0x03, 0x8002⟩, 5, 0x40) := by decide

/-- V-UD-24 (R244, R370). -/
theorem test_dcpIndy_v_ud_24 :
    (run (start 0x01 0x00 0x01 0xFD 0x00 0x8000 [(0x40, 0xFF), (0x41, 0x02), (0x300, 0x01)]) 16 0x40D3).map
      (fun t => (regs t, t.drv.acc, t.ram.read 0x300)) =
      some (⟨0x01, 0x00, 0x01, 0xFD, 0x01, 0x8002⟩, 8, 0x00) := by decide

/-- V-UD-10 (R245). -/
theorem test_isbZp_v_ud_10 :
    (run (start 0x40 0x00 0x00 0xFD 0x01 0x8000 [(0x10, 0xFF)]) 16 0x10E7).map
      (fun t => (regs t, t.drv.acc, t.ram.read 0x10)) =
      some (⟨0x40, 0x00, 0x00, 0xFD, 0x01, 0x8002⟩, 5, 0x00) := by decide

/-- V-UD-11 (R246). -/
theorem test_sloZp_v_ud_11 :
    (run (start 0x01 0x00 0x00 0xFD 0x00 0x8000 [(0x10, 0x80)]) 16 0x1007).map
      (fun t => (regs t, t.drv.acc, t.ram.read 0x10)) =
      some (⟨0x01, 0x00, 0x00, 0xFD, 0x01, 0x8002⟩, 5, 0x00) := by decide

/-- V-UD-15 (R246, R370). -/
theorem test_sloAbsx_v_ud_15 :
    (run (start 0x00 0x20 0x00 0xFD 0x00 0x8000 [(0x310, 0x01)]) 24 0x02F01F).map
      (fun t => (regs t, t.drv.acc, t.ram.read 0x310)) =
      some (⟨0x02, 0x20, 0x00, 0xFD, 0x00, 0x8003⟩, 7, 0x02) := by decide

/-- V-UD-12 (R247). -/
theorem test_rlaZp_v_ud_12 :
    (run (start 0xFF 0x00 0x00 0xFD 0x01 0x8000 [(0x10, 0x40)]) 16 0x1027).map
      (fun t => (regs t, t.drv.acc, t.ram.read 0x10)) =
      some (⟨0x81, 0x00, 0x00, 0xFD, 0x80, 0x8002⟩, 5, 0x81) := by decide

/-- V-UD-13 (R248). -/
theorem test_sreZp_v_ud_13 :
    (run (start 0xFF 0x00 0x00 0xFD 0x00 0x8000 [(0x10, 0x03)]) 16 0x1047).map
      (fun t => (regs t, t.drv.acc, t.ram.read 0x10)) =
      some (⟨0xFE, 0x00, 0x00, 0xFD, 0x81, 0x8002⟩, 5, 0x01) := by decide

/-- V-UD-14 (R249). -/
theorem test_rraZp_v_ud_14 :
    (run (start 0x10 0x00 0x00 0xFD 0x00 0x8000 [(0x10, 0x03)]) 16 0x1067).map
      (fun t => (regs t, t.drv.acc, t.ram.read 0x10)) =
      some (⟨0x12, 0x00, 0x00, 0xFD, 0x00, 0x8002⟩, 5, 0x01) := by decide

/-- V-UD-17 (R250, R133). -/
theorem test_nopAbsx1C_v_ud_17 :
    (run (start 0x00 0x20 0x00 0xFD 0x00 0x8000 []) 24 0x02F01C).map
      (fun t => (regs t, t.drv.acc)) =
      some (⟨0x00, 0x20, 0x00, 0xFD, 0x00, 0x8003⟩, 5) := by decide

/-- V-UD-18 (R250). -/
theorem test_nopAbs0C_v_ud_18 :
    (run ((start 0x00 0x00 0x00 0xFD 0x00 0x8000 []).setPpu { base.ppu with vblank := true }) 24 0x20020C).map
      (fun t => (regs t, t.drv.acc, t.ppu.vblank)) =
      some (⟨0x00, 0x00, 0x00, 0xFD, 0x00, 0x8003⟩, 4, true) := by decide

/-! ## Faults, entries, buses, the PPU, the controller and DMA -/

def inCpu (s : State) : State := { s with drv := { s.drv with phase := .cpu } }

def next (o : Outcome) : Option State :=
  match o with
  | .next t => some t
  | .fault _ => none
  | .refused _ => none

def faultOf (o : Outcome) : Option FaultKind :=
  match o with
  | .next _ => none
  | .fault (.fatal k _) => some k
  | .refused _ => none

def okState (r : Res Unit) : Option State :=
  match r with
  | .ok _ t => some t
  | .raise _ _ => none

theorem okState_isSome {r : Res Unit} (h : (okState r).isSome = true) : ∃ t, r = .ok () t := by
  cases r with
  | ok a t => exact ⟨t, rfl⟩
  | raise k t => cases h

def okByte (r : Res Byte) : Option (Byte × State) :=
  match r with
  | .ok b t => some (b, t)
  | .raise _ _ => none

/-- V-LS-16, V-LS-17, V-UD-21 and V-PR-20. -/
theorem test_faults :
    runFault base 24 0x4018AD = some (.unmappedCpuAddress 0x4018 .read) ∧
    runFault base 24 0x80008D = some (.unmappedCpuAddress 0x8000 .write) ∧
    runFault base 8 0x02 = some (.undefinedOpcode 0x02 0x8000) ∧
    runFault { base with ppu := { base.ppu with v := 0x4000 } } 24 0x2007AD = some (.unmappedPpuAddress 0x4000 .read) := by
  decide

/-- V-IN-1: the NMI entry. -/
theorem test_nmi_entry :
    (next (step (inCpu (base.setNmiPending true)))).map
      (fun t => (regs t, t.cpu.servicing, t.cpu.nmiPending, t.ram.read 0x1FB, t.ram.read 0x1FD, t.drv.acc)) =
      some (⟨0, 0, 0, 0xFA, 0x04, 0x9000⟩, true, false, 0x20, 0x80, 7) := by decide

/-- V-IN-7: the reset entry goes first, and keeps S and A. -/
theorem test_reset_entry :
    (next (step (inCpu (((start 0x07 0 0 0xFD 0 0x9999 []).setResetPending true).setNmiPending true)))).map
      (fun t => (regs t, t.cpu.resetPending, t.cpu.nmiPending, t.drv.acc)) =
      some (⟨0x07, 0, 0, 0xFD, 0x04, 0x8000⟩, false, false, 7) := by decide

/-- V-IN-5: an IRQ is fatal by default. -/
theorem test_irq_is_fatal :
    faultOf (step (inCpu { base with cfg := { base.cfg with irqLine := { after := true } } })) =
      some (.irqUnimplemented 0x8000) := by decide

/-- V-PR-18: the scroll port. -/
theorem test_scroll_port :
    ((okState (memWrite 0x2005 0x7D { base with ppu := { base.ppu with v := 0x1234 } })).bind fun t =>
      okState (memWrite 0x2005 0x5E t)).map (fun t => (t.ppu.t, t.ppu.x, t.ppu.v, t.ppu.w)) =
      some (0x616F, 5, 0x1234, false) := by decide

/-- V-PR-4 and V-PR-5: the address port. -/
theorem test_address_port :
    ((okState (memWrite 0x2006 0x3F base)).bind fun t => okState (memWrite 0x2006 0x00 t)).map
      (fun t => (t.ppu.t, t.ppu.v)) = some (0x3F00, 0x3F00) := by decide

/-- V-PR-3: a Control write. -/
theorem test_control_write :
    (okState (memWrite 0x2000 0x83 base)).map (fun t => (t.ppu.ctrl, t.ppu.t, t.cpu.nmiPending)) =
      some (0x83, 0x0C00, false) := by decide

/-- V-PR-6: a Data read answers the byte before. -/
theorem test_data_read :
    (okByte (memRead 0x2007 { base with
      ppu := { base.ppu with v := 0x2005, buffer := 0x77 }, cart := { base.cart with ciram := [(5, 0xAA)] } })).map
      (fun p => (p.1, p.2.ppu.buffer, p.2.ppu.v)) = some (0x77, 0xAA, 0x2006) := by decide

/-- A6: palette offset 0x10 is cell 0, and 0x05 its own. -/
theorem test_palette_alias :
    (okState (memWrite 0x2007 0xAB { base with ppu := { base.ppu with v := 0x3F10 } })).map (fun t => (t.ppu.pal, t.ppu.v)) =
      some ([(0, 0xAB)], 0x3F11) := by decide

/-- V-NT-3 and V-NT-7: the nametable cells. -/
theorem test_nametable_cells :
    ntCell .vertical 0x2400 = 0x400 ∧ ntCell .vertical 0x2800 = 0 ∧ ntCell .horizontal 0x2400 = 0 ∧
      ntCell .horizontal 0x2800 = 0x400 ∧ ntCell .horizontal 0x3EFF = 0x6FF := by decide

def readsOf (n : Nat) (s : State) : Option (List Byte) :=
  match readTimes n 0x4016 s with
  | .ok l _ => some l
  | .raise _ _ => none

/-- V-CT-1: nine reads of the controller. -/
theorem test_controller_reads :
    ((okState (memWrite 0x4016 1 (base.setCtl { base.ctl with buttons := 0x09 }))).bind fun t =>
      (okState (memWrite 0x4016 0 t)).bind (readsOf 9)) = some [1, 0, 0, 1, 0, 0, 0, 0, 0] := by decide

/-- V-CT-3: a press with the strobe on reaches the shift register. -/
theorem test_update_with_strobe :
    ((okState (memWrite 0x4016 1 base)).map fun t => (hostCall t (.update .a true)).ctl) =
      some { buttons := 0x01, shift := 0x01, strobe := true } := by decide

/-- V-DM-2, two bytes of it: OAM DMA copies at the cursor, which wraps. -/
theorem test_dma_bytes :
    ((okState (dmaByte 0x02 0 { base with ppu := { base.ppu with oamAddr := 0xFF }, ram := [(0x200, 7), (0x201, 9)] })).bind
      fun t => okState (dmaByte 0x02 1 t)).map (fun t => (t.ppu.oam, t.ppu.oamAddr)) =
      some ([(0, 9), (0xFF, 7)], 1) := by decide

/-- V-DM-4: the page 0x40 faults at 0x4018. -/
theorem test_dma_fault :
    (match memWrite 0x4014 0x40 base with
      | .ok _ _ => none
      | .raise k t => some (k, t.ppu.oamAddr)) = some (.unmappedCpuAddress 0x4018 .read, 0x18) := by decide

def pixelOf (r : Res Unit) (col row : Nat) : Option Rgb := (okState r).map fun t => pixelAt t.fb col row

set_option maxRecDepth 10000 in
/-- V-RD-5: one tile, c = 1 then c = 2. -/
theorem test_background_tile :
    pixelOf (backgroundTile 0 0 { base with
      ppu := { base.ppu with mask := 0x08, pal := [(1, 0x02), (2, 0x03)] }
      cart := { base.cart with ciram := [(0, 3)], chr := [(0x30, 0x10), (0x38, 0x08)] } }) 3 0 = some ⟨8, 16, 144⟩ ∧
    pixelOf (backgroundTile 0 0 { base with
      ppu := { base.ppu with mask := 0x08, pal := [(1, 0x02), (2, 0x03)] }
      cart := { base.cart with ciram := [(0, 3)], chr := [(0x30, 0x10), (0x38, 0x08)] } }) 4 0 = some ⟨48, 0, 136⟩ := by
  decide

set_option maxRecDepth 10000 in
/-- V-RD-8 and V-RD-9: a sprite shows from the line after its y. -/
theorem test_sprite_lines :
    let p : Ppu := { base.ppu with oam := (List.range 64).map fun i => (4 * i, if i = 0 then 0x0F else 0xFF) }
    visibleSprites p 16 = [0] ∧ visibleSprites p 15 = [] ∧ visibleSprites p 23 = [0] ∧ visibleSprites p 24 = [] := by decide

/-- V-RD-13: a vertical flip. -/
theorem test_sprite_flip :
    spriteRow { base.ppu with oam := [(0, 0x0F), (2, 0x80)] } 16 0 = 7 ∧
      spriteRow { base.ppu with oam := [(0, 0x0F)] } 16 0 = 0 := by decide

/-- V-RD-16: an 8 by 16 sprite takes its bank from the tile's bit 0. -/
theorem test_tall_sprite_address : addr16 0x03 0 = 0x1020 ∧ addr16 0x03 9 = 0x1031 := by decide

/-- V-RD-22: a palette byte of 0x40 is fatal. -/
theorem test_palette_range :
    (match setPixel 0 0 0 { base with ppu := { base.ppu with pal := [(0, 0x40)] } } with
      | .ok _ _ => none
      | .raise k _ => some k) = some (.paletteRange 0x40) := by decide

/-- V-DR-6: the excess is carried over. -/
theorem test_budget_carry : (endBudget { base with drv := { base.drv with acc := 117 } }).drv.acc = 4 := by decide

/-- V-DR-2: vblank is set at line 241 and cleared at line 261. -/
theorem test_vblank_lines :
    ((okState (startLine 241 base)).map fun t => t.ppu.vblank) = some true ∧
      ((okState (startLine 261 (base.setPpu { base.ppu with vblank := true }))).map fun t => t.ppu.vblank) = some false := by
  decide

/-- R24: `Pack`, from the example of V-ST-3. -/
theorem test_pack : Flags.pack { n := true, v := false, d := false, i := false, z := false, c := true } true = 0xB1 := by decide

/-- R370, R133: base costs and penalties of the table's rows. -/
theorem test_costs :
    cost .sourceRule (.ldaAbsx 0 0) ⟨true, false, 0⟩ = 5 ∧ cost .sourceRule (.staAbsx 0 0) ⟨true, false, 514⟩ = 519 ∧
      cost .sourceRule (.ldaIndy 0) ⟨true, false, 0⟩ = 6 ∧ cost .nmos (.beqRel 0) ⟨true, true, 0⟩ = 4 ∧
      cost .sourceRule (.beqRel 0) ⟨true, true, 0⟩ = 2 ∧ cost .sourceRule .brk ⟨false, false, 0⟩ = 7 := by decide

/-! ## Witnesses: for each statement, what meets its hypotheses together -/

theorem witness_DecodeEncodeAgree : decode [0xAD, 0x00, 0x02] = .ok (.ldaAbs 0x00 0x02, []) := rfl

theorem witness_OpcodeBytesAreClassified : (Instr.laxZp 0).opcode = 0xA7 ∧ (0xA7 : Byte) ∈ undocumentedBytes := by decide

/-- LDA #$80 in RAM at 0x0200. -/
def ready : State :=
  inCpu { base with cpu := { base.cpu with pc := 0x0200 }, ram := [(0x200, 0xA9), (0x201, 0x80)] }

theorem ready_cpuTurn : cpuTurn ready := ⟨by decide, by decide, by decide⟩
theorem ready_instructionTurn : instructionTurn ready := ⟨by decide, by decide, by decide⟩

theorem witness_StepRunsDecodedInstruction :
    ready = hostCalls ready ∧ cpuTurn ready ∧ instructionTurn ready ∧
      (Instr.ldaImm 0x80).wellFormed ready.cfg = true ∧ codeAt ready ready.cpu.pc (encode (.ldaImm 0x80)) :=
  ⟨rfl, ready_cpuTurn, ready_instructionTurn, by decide, by decide, by decide, trivial⟩

/-- The same in the program ROM, its last byte at 0xFFFF. -/
theorem witness_StepRunsDecodedInstruction_rom :
    let s := inCpu { base with
      cpu := { base.cpu with pc := 0xFFFE }, cart := { base.cart with prg := [(0x3FFE, 0xA9), (0x3FFF, 0x80)] } }
    codeAt s s.cpu.pc (encode (.ldaImm 0x80)) := ⟨by decide, by decide, trivial⟩

theorem witness_UndefinedOpcodesFault_exec : Instr.undef02.mnemonic = .undefined := by decide

theorem witness_UndefinedOpcodesFault_step :
    let s := { ready with ram := [(0x200, 0x02)] }
    s = hostCalls s ∧ cpuTurn s ∧ instructionTurn s ∧ plainRead s s.cpu.pc = some 0x02 ∧ s.cfg.enabled 0x02 = false :=
  ⟨rfl, ⟨by decide, by decide, by decide⟩, ⟨by decide, by decide, by decide⟩, by decide, by decide⟩

theorem witness_UndefinedOpcodesFault_disabled :
    let s := { ready with ram := [(0x200, 0x87)] }
    plainRead s s.cpu.pc = some 0x87 ∧ s.cfg.enabled 0x87 = false := by decide

theorem witness_HostCallsActBetweenSteps :
    ({ base with host := [[.update .start true, .hostReset]] } : State).host = [.update .start true, .hostReset] :: [] ∧
      ready.host = [] ∧ ∃ t, step { ready with host := [[.update .start true]] } = .next t := ⟨rfl, rfl, _, rfl⟩

theorem witness_HaltedStaysHalted : ({ base with fault := some .nmiDoubleRequest } : State).fault = some .nmiDoubleRequest :=
  rfl

theorem ready_inv : Inv ready := by
  refine ⟨⟨by decide, by decide, by decide, by decide, by decide, by decide, by decide, fun row => ?_⟩, by decide, by decide,
    (by decide : (0 : Nat) < 262), by decide⟩
  simp [ready, inCpu, base, State.reset, State.powerOn, Init.zero, Vector.getElem_replicate]
  decide

theorem witness_StepKeepsInvariant : Inv ready ∧ ∃ t, step ready = .next t := ⟨ready_inv, _, rfl⟩

/-- A setting, an image and a draw other than State.reset's. -/
theorem witness_ResetMeetsInvariant :
    let cfg := { Config.default with prgBanks := .two, mirroring := .vertical }
    cfg.wf = true ∧ Image.Ok cfg { prg := [(0x7FFD, 0x80)], chr := [(0x1FFF, 1)], external := 0 } ∧
      Init.Ok { Init.zero with ram := [(0x7FF, 0xEA)], ciram := [(0x7FF, 1)] } := by
  refine ⟨by decide, ⟨by decide, by decide⟩, by decide, by decide, by decide, by decide, by decide, fun row => ?_⟩
  simp [Init.zero, Vector.getElem_replicate]
  decide

theorem witness_StepKeepsParametersAndRom :
    ready.cfg.cart = .nrom ∧ ready.cfg.chrWrite ≠ .ram ∧ ∃ t, step ready = .next t := ⟨by decide, by decide, _, rfl⟩

/-- A state whose next step renders line 239. -/
def painting : State := { base with drv := { acc := 0, line := 239, phase := .raster } }

theorem painting_paintable : Paintable painting := ⟨rfl, fun _ => (by decide : Memory.blank.toNat < 0x40)⟩

theorem painting_renders : ∃ t, renderScanline painting.drv.line painting = .ok () t :=
  renderScanline_ok (by decide) painting_paintable

theorem witness_OnlyRasterDraws_raster : (hostCalls painting).drv.phase = .raster ∧ ∃ t, step painting = .next t := by
  obtain ⟨t, h⟩ := painting_renders
  refine ⟨rfl, t.setDrv { t.drv with phase := .startLine (nextLine t.cfg t.drv.line) }, ?_⟩
  show (rasterStep painting).toOutcome = _
  rw [rasterStep, h]
  rfl

theorem witness_OnlyRasterDraws_other : (hostCalls ready).drv.phase ≠ .raster ∧ ∃ t, step ready = .next t :=
  ⟨by decide, _, rfl⟩

theorem witness_NmiComesFromTheDriver_request :
    let s := { base with drv := { base.drv with phase := .startLine 241 }, ppu := { base.ppu with ctrl := 0x80 } }
    s.cpu.nmiPending = false ∧ ∃ t, step s = .next t ∧ t.cpu.nmiPending = true := ⟨rfl, _, rfl, rfl⟩

theorem witness_NmiComesFromTheDriver_entry :
    let s := inCpu (base.setNmiPending true)
    s.cpu.servicing = false ∧ s.cpu.nmiPending = true ∧ ∃ t, step s = .next t ∧ t.cpu.servicing = true :=
  ⟨rfl, rfl, _, rfl, rfl⟩

theorem base_cpuTurn : cpuTurn (inCpu base) := ⟨by decide, by decide, by decide⟩

theorem witness_ResetEntry :
    let s := inCpu (base.setResetPending true)
    s = hostCalls s ∧ cpuTurn s ∧ s.cpu.resetPending = true ∧
      plainRead s 0xFFFC = some 0x00 ∧ plainRead s 0xFFFD = some 0x80 ∧
      ∃ u : State, u = { s with scratch := { crossed := false, taken := false, dmaStall := 0 } } :=
  ⟨rfl, ⟨by decide, by decide, by decide⟩, by decide, by decide, by decide, _, rfl⟩

/-- A vector byte that does not answer is a fault (a cartridge other than the default may leave one unanswered). -/
theorem witness_throughVector_fault :
    ∃ k t, throughVector { base with cpu := { base.cpu with pc := 0x1234 } } 0x4018 (fun w => w) = .fault (.fatal k t) :=
  ⟨_, _, rfl⟩

/-- The status byte of the flags all clear, with each break bit. -/
theorem statusByte_clear (b : Bool) (k : Nat) :
    (if b then 0x30 else 0x20 : Byte).getLsbD k =
      statusBit { n := false, v := false, d := false, i := false, z := false, c := false } b k := by
  by_cases h : k < 8
  · exact (by decide : ∀ (b : Bool) (k : Fin 8), (if b then 0x30 else 0x20 : Byte).getLsbD k.1 =
      statusBit { n := false, v := false, d := false, i := false, z := false, c := false } b k.1) b ⟨k, h⟩
  · obtain ⟨j, rfl⟩ : ∃ j, k = j + 8 := ⟨k - 8, by omega⟩
    rw [BitVec.getLsbD_of_ge _ _ (by omega)]
    rfl

theorem witness_NmiEntry :
    let s := inCpu (base.setNmiPending true)
    s = hostCalls s ∧ cpuTurn s ∧ s.cpu.resetPending = false ∧ s.cpu.nmiPending = true ∧ s.cpu.servicing = false ∧
      (∀ k, (0x20 : Byte).getLsbD k = statusBit s.cpu.flags false k) ∧
      plainRead s 0xFFFA = some 0x00 ∧ plainRead s 0xFFFB = some 0x90 :=
  ⟨rfl, ⟨by decide, by decide, by decide⟩, by decide, by decide, by decide, statusByte_clear false, by decide, by decide⟩

theorem witness_NmiEntry_nested :
    let s := inCpu (({ base with cfg := { base.cfg with nmiNesting := .nest } }.setNmiPending true).setServicing true)
    s = hostCalls s ∧ cpuTurn s ∧ s.cpu.resetPending = false ∧ s.cpu.nmiPending = true ∧ s.cfg.nmiNesting = .nest ∧
      plainRead s 0xFFFA = some 0x00 ∧ plainRead s 0xFFFB = some 0x90 :=
  ⟨rfl, ⟨by decide, by decide, by decide⟩, by decide, by decide, by decide, by decide, by decide⟩

/-- The IRQ line is asserted. -/
def irqBase (e : IrqEntry) : State :=
  inCpu { base with cfg := { base.cfg with irqLine := { after := true }, irqEntry := e } }

theorem witness_IrqEntry :
    irqBase .fatal = hostCalls (irqBase .fatal) ∧ cpuTurn (irqBase .fatal) ∧ (irqBase .fatal).cpu.resetPending = false ∧
      (irqBase .fatal).cpu.nmiPending = false ∧ (irqBase .fatal).cpu.servicing = false ∧
      (irqBase .fatal).cpu.flags.i = false ∧
      irqLineAt (irqBase .fatal).cfg.irqLine (irqBase .fatal).cpuSteps = true ∧ (irqBase .fatal).cfg.irqEntry = .fatal :=
  ⟨rfl, ⟨by decide, by decide, by decide⟩, by decide, by decide, by decide, by decide, by decide, by decide⟩

theorem witness_IrqEntry_service :
    irqBase .service = hostCalls (irqBase .service) ∧ cpuTurn (irqBase .service) ∧
      irqLineAt (irqBase .service).cfg.irqLine (irqBase .service).cpuSteps = true ∧
      (irqBase .service).cpu.resetPending = false ∧ (irqBase .service).cpu.nmiPending = false ∧
      (irqBase .service).cpu.servicing = false ∧ (irqBase .service).cpu.flags.i = false ∧
      (irqBase .service).cfg.irqEntry = .service ∧
      (∀ k, (0x20 : Byte).getLsbD k = statusBit (irqBase .service).cpu.flags false k) ∧
      plainRead (irqBase .service) 0xFFFE = some 0x00 ∧ plainRead (irqBase .service) 0xFFFF = some 0xA0 :=
  ⟨rfl, ⟨by decide, by decide, by decide⟩, by decide, by decide, by decide, by decide, by decide, by decide,
    statusByte_clear false, by decide, by decide⟩

theorem witness_NmiComesFromTheDriver_irq :
    (irqBase .service).cpu.servicing = false ∧ (irqBase .service).cpu.nmiPending = false ∧
      ∃ t, step (irqBase .service) = .next t ∧ t.cpu.servicing = true := ⟨rfl, rfl, _, rfl, rfl⟩

/-- A machine about to start line `sl`. -/
def starting (sl : Nat) (ctrl : Byte) (nmi : Bool) : State :=
  { base.setNmiPending nmi with drv := { base.drv with phase := .startLine sl }, ppu := { base.ppu with ctrl := ctrl } }

theorem witness_ScanlineSchedule_double :
    (starting 241 0x80 true).fault = none ∧ (starting 241 0x80 true).drv.phase = .startLine 241 ∧
      (starting 241 0x80 true).ppu.ctrl.getLsbD 7 = true ∧ (starting 241 0x80 true).cpu.nmiPending = true := by decide

theorem witness_ScanlineSchedule_start :
    (starting 241 0x80 false).fault = none ∧ (starting 241 0x80 false).drv.phase = .startLine 241 ∧
      ¬(241 = 241 ∧ (starting 241 0x80 false).ppu.ctrl.getLsbD 7 = true ∧ (starting 241 0x80 false).cpu.nmiPending = true) ∧
      (starting 261 0x80 true).drv.phase = .startLine 261 := by decide

theorem witness_ScanlineSchedule_spent :
    let s := { base with drv := { acc := 113, line := 239, phase := .cpu } }
    s.fault = none ∧ s.drv.phase = .cpu ∧ s.cfg.cyclesPerScanline ≤ s.drv.acc := by decide

theorem witness_ScanlineSchedule_raster :
    painting.fault = none ∧ painting.drv.phase = .raster ∧ ∃ u, renderScanline painting.drv.line painting = .ok () u :=
  ⟨rfl, rfl, painting_renders⟩

theorem witness_CostOfInstruction : (Instr.ldaAbsx 0xFF 0x02).mnemonic ≠ .undefined := by decide

theorem witness_OperandAddresses_zeroPage :
    let s := { base with ram := [(0, 0x02), (0xFF, 0x34), (0x100, 0x03)] }
    s.cfg.indyPtrWrap = .zeroPage ∧ (0x34 : Byte) = s.ram.read 0xFF ∧
      (0x02 : Byte) = s.ram.read (if s.cfg.indyPtrWrap = .zeroPage then (0xFF + 1) % 256 else 0xFF + 1) := by decide

theorem witness_OperandAddresses_linear :
    let s := { base with
      cfg := { base.cfg with indyPtrWrap := .linear }, ram := [(0, 0x02), (0xFF, 0x34), (0x100, 0x03)] }
    s.cfg.indyPtrWrap = .linear ∧ (0x34 : Byte) = s.ram.read 0xFF ∧
      (0x03 : Byte) = s.ram.read (if s.cfg.indyPtrWrap = .zeroPage then (0xFF + 1) % 256 else 0xFF + 1) := by decide

/-- The jump's pointer at the end of a page of RAM, and at Status and the byte after it. -/
theorem witness_OperandAddresses_ind :
    (∃ lo hi t u, memRead ((0x02 : Byte) ++ (0xFF : Byte)) base = .ok lo t ∧
      memRead ((0x02 : Byte) ++ ((0xFF : Byte) + 1)) t = .ok hi u) ∧
    ∃ lo hi t u, memRead ((0x20 : Byte) ++ (0x02 : Byte)) base = .ok lo t ∧
      memRead ((0x20 : Byte) ++ ((0x02 : Byte) + 1)) t = .ok hi u :=
  ⟨⟨_, _, _, _, rfl, rfl⟩, _, _, _, _, rfl, rfl⟩

theorem witness_PointerReadKeepsItsPage :
    let s := { base with ram := [(0, 0x0A), (0xFF, 0x02)] }
    memRead 0x00FF s = .ok 0x02 s ∧ memRead (hiByte 0x00FF ++ (loByte 0x00FF + 1)) s = .ok 0x0A s ∧
      s.ram.read 0xFF = 0x02 ∧ s.ram.read 0 = 0x0A := ⟨rfl, rfl, rfl, rfl⟩

theorem witness_RejectedAccessFaults_read :
    Mnemonic.lda ∈ readers ++ modifiers ∧ (Instr.ldaAbs 0x18 0x40).mnemonic = .lda ∧
      effectiveAddress (Instr.ldaAbs 0x18 0x40).operand base = some 0x4018 ∧ readable base 0x4018 = false ∧
      readable base 0x401F = false ∧ readable base 0x4020 = false ∧ readable base 0x7FFF = false ∧
      (Instr.incAbs 0x18 0x40).mnemonic ∈ readers ++ modifiers := by decide

theorem witness_RejectedAccessFaults_write :
    (Instr.staAbs 0x00 0x80).mnemonic = .sta ∧ effectiveAddress (Instr.staAbs 0x00 0x80).operand base = some 0x8000 ∧
      writable base 0x8000 base.cpu.a = false ∧ writable base 0x4018 base.cpu.a = false ∧
      writable base 0x4014 0x40 = false := by decide

/-- A rotate of the program ROM's byte at 0xFFFB, 0x90: the read answers, C is set and the write does not land. -/
theorem witness_RejectedAccessFaults_rmw :
    let t := resolved (Instr.rolAbs 0xFB 0xFF).operand base
    (Instr.rolAbs 0xFB 0xFF).mnemonic ∈ modifiers ∧ effectiveAddress (Instr.rolAbs 0xFB 0xFF).operand base = some 0xFFFB ∧
      memRead 0xFFFB t = .ok 0x90 t ∧ writable t 0xFFFB (rmwResult .rol base.cpu.flags.c 0x90) = false ∧
      rmwCarry .rol base.cpu.flags.c 0x90 = true ∧ base.cfg.cart = .nrom :=
  ⟨by decide, by decide, memRead_plain (by decide), by decide, by decide, rfl⟩

theorem witness_RamReadsBackAtEveryMirror :
    (0x1FFF : Word).toNat ≤ 0x1FFF ∧ (0x07FF : Word).toNat ≤ 0x1FFF ∧
      ∃ t, memWrite 0x1FFF 0x12 base = .ok () t := ⟨by decide, by decide, _, rfl⟩

theorem witness_InertAndUnmappedAddresses :
    (0x4000 ≤ (0x4013 : Word).toNat ∧ (0x4013 : Word).toNat ≤ 0x4013) ∧
      0x4018 ≤ (0x4018 : Word).toNat ∧ (0x401F : Word).toNat ≤ 0x401F := by decide

theorem witness_ReadFrame :
    (∃ b t, memRead 0x2002 base = .ok b t) ∧ (∃ b t, memRead 0x3FFF base = .ok b t) ∧ (∃ b t, memRead 0x4016 base = .ok b t) ∧
      ∃ b t, memRead 0xFFFF base = .ok b t := ⟨⟨_, _, rfl⟩, ⟨_, _, rfl⟩, ⟨_, _, rfl⟩, _, _, rfl⟩

theorem witness_WriteFrame :
    base.cfg.cart = .nrom ∧ (∃ t, memWrite 0x1FFF 1 base = .ok () t) ∧ (∃ t, memWrite 0x2004 1 base = .ok () t) ∧
      (∃ t, memWrite 0x2007 1 (base.setPpu { base.ppu with v := 0x3F10 }) = .ok () t) ∧
      ∃ t, memWrite 0x4016 1 base = .ok () t :=
  ⟨rfl, okState_isSome (by decide), okState_isSome (by decide), okState_isSome (by decide), okState_isSome (by decide)⟩

theorem witness_DefaultProgramWindow :
    base.cfg.cart = .nrom ∧ base.cfg.prgBanks = .one ∧ 0x8000 ≤ (0x8000 : Word).toNat ∧ (0xBFFF : Word).toNat < 0xC000 ∧
      0x8000 ≤ (0xFFFF : Word).toNat ∧ 0x4020 ≤ (0x4020 : Word).toNat ∧ (0x7FFF : Word).toNat < 0x8000 := by decide

theorem witness_PpuBusReadsBack :
    base.cfg.cart = .nrom ∧ (∃ t, ppuWrite 0x3F10 1 base = .ok () t) ∧ (∃ t, ppuWrite 0x3FFF 1 base = .ok () t) ∧
      (∃ t, ppuWrite 0x2000 1 base = .ok () t) ∧ ∃ t, ppuWrite 0x3EFF 1 base = .ok () t :=
  ⟨rfl, okState_isSome (by decide), okState_isSome (by decide), okState_isSome (by decide), okState_isSome (by decide)⟩

theorem witness_PpuBusReadsBack_patterns :
    base.cfg.cart = .nrom ∧ (0x1FFF : Word).toNat ≤ 0x1FFF ∧ (0 : Word).toNat ≤ 0x1FFF ∧ base.cfg.chrWrite = .fatal ∧
      (∃ c : Config, c = { base.cfg with chrWrite := .ignore } ∧ c.chrWrite = .ignore) ∧
      let s := { base with cfg := { base.cfg with chrWrite := .ram } }
      s.cfg.cart = .nrom ∧ s.cfg.chrWrite = .ram ∧ ∃ t, ppuWrite 0x1FFF 1 s = .ok () t :=
  ⟨rfl, by decide, by decide, rfl, ⟨_, rfl, rfl⟩, rfl, rfl, okState_isSome (by decide)⟩

theorem witness_OamPorts :
    (0x2000 ≤ (0x2003 : Word).toNat ∧ (0x2003 : Word).toNat ≤ 0x3FFF ∧ (0x2003 : Word).toNat % 8 = 3) ∧
      0x2000 ≤ (0x3FFC : Word).toNat ∧ (0x3FFC : Word).toNat ≤ 0x3FFF ∧ (0x3FFC : Word).toNat % 8 = 4 := by decide

theorem witness_ControlMaskStatusScroll :
    0x2000 ≤ (0x2000 : Word).toNat ∧ (0x3FFD : Word).toNat ≤ 0x3FFF ∧
      (0x2000 : Word).toNat % 8 = 0 ∧ (0x2001 : Word).toNat % 8 = 1 ∧ (0x2002 : Word).toNat % 8 = 2 ∧
      (0x3FFD : Word).toNat % 8 = 5 ∧ (0x3FFB : Word).toNat % 8 ∈ [0, 1, 3, 5, 6] ∧
      (0x3FFE : Word).toNat % 8 ∈ [0, 1, 3, 5, 6] ∧ base.ppu.w = false ∧ (base.setPpu { base.ppu with w := true }).ppu.w = true := by decide

theorem witness_AddressPort :
    0x2000 ≤ (0x3FFE : Word).toNat ∧ (0x3FFE : Word).toNat ≤ 0x3FFF ∧ (0x3FFE : Word).toNat % 8 = 6 ∧
      base.ppu.w = false ∧ (base.setPpu { base.ppu with w := true }).ppu.w = true := by decide

theorem witness_DataWrite :
    let s := base.setPpu { base.ppu with v := 0x3F10 }
    (0x2007 : Word).toNat % 8 = 7 ∧ (∃ t, ppuWrite (s.ppu.v.setWidth 16) 0xAB s = .ok () t) ∧
      s.ppu.v = 0x3F10 ∧ s.ppu.ctrl.getLsbD 2 = false := ⟨by decide, okState_isSome (by decide), rfl, rfl⟩

theorem witness_DataWrite_raise :
    ∃ k t, ppuWrite (base.ppu.v.setWidth 16) 0xAB base = .raise k t := ⟨_, _, rfl⟩

theorem witness_DataRead_high :
    let s := base.setPpu { base.ppu with v := 0x4000 }
    0x4000 ≤ s.ppu.v.toNat ∧ s.cfg.ppuAddrHigh = .fatal := by decide

theorem witness_DataRead_buffered :
    let s := base.setPpu { base.ppu with v := 0x3EFF, ctrl := 0x04 }
    s.ppu.v.toNat < 0x4000 ∧ (0x3EFF : Word).toNat = s.ppu.v.toNat % 0x4000 ∧
      (0x3F1F : BitVec 15).toNat = (s.ppu.v.toNat + (if s.ppu.ctrl.getLsbD 2 then 32 else 1)) % 0x8000 ∧
      (0x3EFF : Word).toNat < 0x3F00 ∧ ∃ b, ppuRead 0x3EFF s = .ok b s :=
  ⟨by decide, by decide, by decide, by decide, _, rfl⟩

theorem witness_DataRead_palette :
    let s := base.setPpu { base.ppu with v := 0x3F00 }
    s.ppu.v.toNat < 0x4000 ∧ (0x3F00 : Word).toNat = s.ppu.v.toNat % 0x4000 ∧ 0x3F00 ≤ (0x3F00 : Word).toNat ∧
      s.cfg.palReadBuffer = .unchanged := by decide

theorem witness_DataRead_underlying :
    let s := { base with
      cfg := { base.cfg with palReadBuffer := .underlying, ppuAddrHigh := .mask14 }, ppu := { base.ppu with v := 0x7FFF } }
    s.cfg.ppuAddrHigh = .mask14 ∧ (0x3FFF : Word).toNat = s.ppu.v.toNat % 0x4000 ∧
      (0 : BitVec 15).toNat = (s.ppu.v.toNat + (if s.ppu.ctrl.getLsbD 2 then 32 else 1)) % 0x8000 ∧
      0x3F00 ≤ (0x3FFF : Word).toNat ∧ s.cfg.palReadBuffer = .underlying ∧
      ∃ b, ppuRead ((0x3FFF : Word) - 0x1000) s = .ok b s :=
  ⟨by decide, by decide, by decide, by decide, by decide, _, rfl⟩

theorem witness_ControllerReads :
    let c : Controller := { buttons := 0x81, shift := 0x81, strobe := true }
    base.ctl.strobe = false ∧ (base.setCtl c).ctl.strobe = true ∧ (base.setCtl c).ctl.shift = (base.setCtl c).ctl.buttons := by
  decide

theorem witness_OamDmaCopiesAPage :
    (0x1F : Byte).toNat < 0x20 ∧ 0x80 ≤ (0x80 : Byte).toNat ∧ 0x80 ≤ (0xFF : Byte).toNat ∧ base.cfg.cart = .nrom ∧
      0x20 ≤ (0x20 : Byte).toNat ∧ (0x3F : Byte).toNat < 0x40 ∧ 0x41 ≤ (0x41 : Byte).toNat ∧ (0x7F : Byte).toNat < 0x80 ∧
      255 < 256 := by decide

/-- v at 0x2000: the 32 Data reads answer. -/
theorem witness_OamDmaCopiesAPage_registers :
    ∃ bytes u, readTimes 32 0x2007 (base.setPpu { base.ppu with v := 0x2000, vblank := true }) = .ok bytes u := by
  have h : (match readTimes 32 0x2007 (base.setPpu { base.ppu with v := 0x2000, vblank := true }) with
      | .ok _ _ => true
      | .raise _ _ => false) = true := by decide
  split at h
  · exact ⟨_, _, by assumption⟩
  · cases h

theorem witness_BackgroundOfAScanline :
    239 ≤ 239 ∧ base.cfg.cart = .nrom ∧ base.ppu.mask.getLsbD 4 = false ∧ ∀ k, (base.ppu.pal.read k).toNat < 0x40 :=
  ⟨by decide, by decide, by decide, fun _ => (by decide : Memory.blank.toNat < 0x40)⟩

/-- A palette byte above 0x3F, under each setting of `PAL_RANGE`. -/
def bright (r : PalRange) : State :=
  { base with cfg := { base.cfg with palRange := r }, ppu := { base.ppu with pal := [(0, 0x40)] } }

theorem witness_BackgroundOfAScanline_mask6 :
    0 ≤ 239 ∧ (bright .mask6).cfg.cart = .nrom ∧ (bright .mask6).ppu.mask.getLsbD 4 = false ∧
      (bright .mask6).cfg.palRange = .mask6 := by decide

theorem witness_PaletteByteOutOfRange :
    0 ≤ 239 ∧ 0 < 256 ∧ (bright .fatal).cfg.cart = .nrom ∧ (bright .fatal).cfg.palRange = .fatal ∧
      0x40 = (bright .fatal).ppu.pal.read (backgroundIndex (bright .fatal) 0 0) ∧ 0x40 ≤ (0x40 : Byte).toNat ∧
      (∀ y < 0, ((bright .fatal).ppu.pal.read (backgroundIndex (bright .fatal) 0 y)).toNat < 0x40) ∧
      (0x3F : Byte).toNat < 0x40 ∧ (bright .mask6).cfg.palRange = .mask6 :=
  ⟨by decide, by decide, by decide, by decide, by decide, by decide, fun _ h => absurd h (by omega), by decide, by decide⟩

/-- The last pixel of a line, reached past 255 that are in range: only it has a background colour, and its palette byte is
out of range. -/
def lastBright : State :=
  { base with
    cfg := { base.cfg with palRange := .fatal }
    ppu := { base.ppu with mask := 0x08, pal := [(1, 0x40)] }
    cart := { base.cart with ciram := [(31, 1)], chr := [(16, 1)] } }

set_option maxRecDepth 200000 in
theorem witness_PaletteByteOutOfRange_last :
    0x40 = lastBright.ppu.pal.read (backgroundIndex lastBright 0 255) ∧
      ∀ y < 255, (lastBright.ppu.pal.read (backgroundIndex lastBright 0 y)).toNat < 0x40 := by decide

/-- Nine sprites on line 16, the rest below the screen. -/
def nine : State :=
  { base with ppu := { base.ppu with mask := 0x10, oam := (List.range 64).map fun i => (4 * i, if i < 9 then 0x0F else 0xFF) } }

theorem witness_SpritesOfAScanline :
    16 ≤ 239 ∧ nine.cfg.cart = .nrom ∧ nine.ppu.mask.getLsbD 4 = true ∧ (∀ k, (nine.ppu.pal.read k).toNat < 0x40) ∧
      drawnSprites nine 16 = [0, 1, 2, 3, 4, 5, 6, 7] ∧ (bright .mask6).cfg.palRange = .mask6 :=
  ⟨by decide, by decide, by decide, fun _ => (by decide : Memory.blank.toNat < 0x40), by decide, by decide⟩

/-- R304: of two opaque sprites at one pixel, each order of `SPRITE_ORDER` shows one. -/
theorem witness_SpritesOfAScanline_order :
    let s := { base with
      ppu := { base.ppu with mask := 0x10, oam := (List.range 64).map fun i => (4 * i, if i < 2 then 0x0F else 0xFF) }
      cart := { base.cart with chr := [(0, 0x80)] } }
    let t := { s with ppu := { s.ppu with oam := s.ppu.oam.write 6 0x23 } }
    spriteBits t 16 0 0 = 1 ∧ spriteBits t 16 1 0 = 1 ∧
      shownIndex { t with cfg := { t.cfg with spriteOrder := .laterDrawnWins } } 16 0 = 0x1D ∧
      shownIndex { t with cfg := { t.cfg with spriteOrder := .lowerIndexWins } } 16 0 = 0x11 ∧
      shownIndex t 16 1 = 0 := by decide

theorem witness_NinthSpriteIsDropped :
    8 < 64 ∧ spriteVisible nine.ppu 16 8 = true ∧ 8 ∉ visibleSprites nine.ppu 16 ∧
      (∃ oam : Memory, oam ≠ nine.ppu.oam ∧ (∀ k, k / 4 ≠ 8 → oam.read k = nine.ppu.oam.read k) ∧
        oam.read (4 * 8) = nine.ppu.oam.read (4 * 8)) ∧
      ∃ t, renderScanline 16 nine = .ok () t := by
  refine ⟨by decide, by decide, by decide, ⟨nine.ppu.oam.write 33 7, by decide, fun k h => ?_, by decide⟩,
    renderScanline_ok (by decide) ⟨rfl, fun _ => (by decide : Memory.blank.toNat < 0x40)⟩⟩
  exact Memory.read_write_other _ _ (by omega)

theorem witness_Loads :
    (Instr.ldaImm 1).mnemonic = .lda ∧ operandReadable (Instr.ldaImm 1).operand base = true ∧
    (Instr.ldxAbs 0 2).mnemonic = .ldx ∧ operandReadable (Instr.ldxAbs 0 2).operand base = true ∧
    (Instr.ldyAbsx 0xFF 0x3F).mnemonic = .ldy ∧ operandReadable (Instr.ldyAbsx 0xFF 0x3F).operand base = true ∧
    (Instr.laxIndy 0xFF).mnemonic = .lax ∧ operandReadable (Instr.laxIndy 0xFF).operand base = true := by decide

theorem witness_AddAndSubtract :
    (Instr.adcImm 1).mnemonic = .adc ∧ operandReadable (Instr.adcImm 1).operand base = true ∧
    (Instr.sbcImmEB 1).mnemonic = .sbc ∧ operandReadable (Instr.sbcImmEB 1).operand base = true ∧
    (0x80 : Byte).toNat = (0x7F + 1 + 0) % 256 := by decide

theorem witness_LogicCompareBit :
    (Instr.andImm 1).mnemonic = .and ∧ (Instr.oraImm 1).mnemonic = .ora ∧ (Instr.eorImm 1).mnemonic = .eor ∧
    (Instr.cmpImm 1).mnemonic = .cmp ∧ (Instr.cpxImm 1).mnemonic = .cpx ∧ (Instr.cpyImm 1).mnemonic = .cpy ∧
    (Instr.bitZp 1).mnemonic = .bit ∧ operandReadable (Instr.andImm 1).operand base = true ∧
    operandReadable (Instr.bitZp 1).operand base = true ∧
    (∀ k, (0x10 &&& 0x30 : Byte).getLsbD k = ((0x10 : Byte).getLsbD k && (0x30 : Byte).getLsbD k)) :=
  ⟨by decide, by decide, by decide, by decide, by decide, by decide, by decide, by decide, by decide,
    fun _ => BitVec.getLsbD_and⟩

theorem witness_Stores :
    (Instr.staIndy 0).mnemonic = .sta ∧ (Instr.stxZpy 0).mnemonic = .stx ∧ (Instr.styZpx 0).mnemonic = .sty ∧
    (Instr.saxIndx 0).mnemonic = .sax ∧ effectiveAddress (Instr.staAbs 0xFF 0x1F).operand base = some 0x1FFF ∧
    writable base 0x1FFF 1 = true ∧ writable base 0x4014 0x02 = true := by decide

theorem witness_RegisterMoves :
    ∃ nz : Byte → Flags, ∀ r, nz r = { base.cpu.flags with z := decide (r = 0), n := r.getLsbD 7 } := ⟨_, fun _ => rfl⟩

theorem witness_FlagWritesAndNops : (Instr.nopAbsx1C 0xF0 0x02).mnemonic = .nop ∧ Instr.nop.mnemonic = .nop := by decide

theorem witness_Shifts :
    (Instr.aslAcc.mnemonic = .asl ∧ Instr.aslAcc.operand = .acc
      ∧ ∃ f : Byte → Byte, ∀ m k, (f m).getLsbD k = (decide (0 < k ∧ k < 8) && m.getLsbD (k - 1))) ∧
    ((Instr.lsrZp 0).mnemonic = .lsr ∧ ∃ f : Byte → Byte, ∀ m k, (f m).getLsbD k = m.getLsbD (k + 1)) ∧
    ((Instr.rolZp 0).mnemonic = .rol ∧ ∃ f : Byte → Byte, ∀ m k, (f m).getLsbD k =
      if k = 0 then base.cpu.flags.c else (decide (k < 8) && m.getLsbD (k - 1))) ∧
    ((Instr.rorZp 0).mnemonic = .ror ∧ ∃ f : Byte → Byte, ∀ m k, (f m).getLsbD k =
      if k = 7 then base.cpu.flags.c else m.getLsbD (k + 1)) ∧
    effectiveAddress (Instr.rolZp 0).operand base = some 0 ∧ rmwReady (fun m => m <<< 1) 0 base = true := by
  refine ⟨⟨rfl, rfl, fun m => m <<< 1, fun m k => ?_⟩, ⟨rfl, fun m => m >>> 1, fun m k => ?_⟩,
    ⟨rfl, fun m => m <<< 1, fun m k => ?_⟩, ⟨rfl, fun m => m >>> 1, fun m k => ?_⟩, rfl, rfl⟩
  · rcases Nat.eq_zero_or_pos k with h | h
    · subst h; simp
    · by_cases h8 : k < 8
      · simp [h, h8, Nat.not_lt.mpr h]
        exact (BitVec.getLsbD_eq_getElem (by omega)).symm
      · simp [h8]
  · simp [BitVec.getLsbD_ushiftRight, Nat.add_comm]
  · rcases Nat.eq_zero_or_pos k with h | h
    · subst h; simp; rfl
    · by_cases h8 : k < 8
      · simp [Nat.ne_of_gt h, h8, Nat.not_lt.mpr h]
        exact (BitVec.getLsbD_eq_getElem (by omega)).symm
      · simp [Nat.ne_of_gt h, h8]
  · by_cases h : k = 7
    · subst h; simp; rfl
    · simp [h, BitVec.getLsbD_ushiftRight, Nat.add_comm]

theorem witness_IncrementAndDecrement :
    (Instr.incZp 0x10).mnemonic = .inc ∧ (Instr.decAbs 0xFF 0x1F).mnemonic = .dec ∧ (Instr.dcpIndx 0).mnemonic = .dcp ∧
    effectiveAddress (Instr.decAbs 0xFF 0x1F).operand base = some 0x1FFF ∧
    rmwReady (fun m => m - 1) 0x1FFF (resolved (Instr.decAbs 0xFF 0x1F).operand base) = true := by decide

theorem witness_CombinedModifiers :
    (Instr.sloZp 0).mnemonic = .slo ∧ (Instr.rlaZp 0).mnemonic = .rla ∧ (Instr.sreZp 0).mnemonic = .sre ∧
    (Instr.rraZp 0).mnemonic = .rra ∧ (Instr.isbZp 0).mnemonic = .isb ∧
    effectiveAddress (Instr.sloZp 0).operand base = some 0 ∧
    rmwReady (fun m => m <<< 1) 0 (resolved (Instr.sloZp 0).operand base) = true := by decide

theorem witness_Branches :
    Instr.bneRel 0x80 = .bneRel 0x80 ∧ true = !base.cpu.flags.z ∧
      ((0x7F80 : Word).toNat : Int) = (base.cpu.pc.toNat + (0x80 : Byte).toInt) % 65536 := by decide

theorem witness_Branches_wraps :
    ((0x0001 : Word).toNat : Int) = ((0xFFFF : Word).toNat + (0x02 : Byte).toInt) % 65536 := by decide

theorem witness_JumpsCallsReturns :
    readable base ((0x02 : Byte) ++ (0xFF : Byte)) = true ∧ readable base ((0x02 : Byte) ++ ((0xFF : Byte) + 1)) = true ∧
      ∃ t u, exec (.jsrAbs 0x00 0x90) base = .next t ∧ exec .rts t = .next u := ⟨by decide, by decide, _, _, rfl, rfl⟩

theorem witness_PushesAndPulls :
    (∀ k, (0x30 : Byte).getLsbD k = statusBit base.cpu.flags true k) ∧
      ∃ t u, exec .php base = .next t ∧ exec .plp t = .next u := ⟨statusByte_clear true, _, _, rfl, rfl⟩

theorem witness_BreakAndReturn :
    (∀ k, (0x30 : Byte).getLsbD k = statusBit base.cpu.flags true k) ∧ (0x8001 : Word) = base.cpu.pc + 1 ∧
      plainRead base 0xFFFE = some 0x00 ∧ plainRead base 0xFFFF = some 0xA0 :=
  ⟨statusByte_clear true, by decide, by decide, by decide⟩

theorem witness_PushAndPull :
    let t := { base with cpu := { base.cpu with sp := if base.cpu.sp = 0xFF then 0 else base.cpu.sp + 1 } }
    3 < 4 ∧ (∃ u, push 0x12 base = .ok () u) ∧ memRead (BitVec.ofNat 16 (0x100 + t.cpu.sp.toNat)) t = .ok 0 t :=
  ⟨by decide, ⟨_, rfl⟩, rfl⟩

theorem witness_FrameOfRegisterInstructions :
    Instr.tax.mnemonic ∈ registerOnly ∧ (∃ t, exec .tax base = .next t) ∧ (Instr.bneRel 2).mnemonic ∈ registerOnly ∧
      ∃ t, exec (.bneRel 2) base = .next t := ⟨by decide, ⟨_, rfl⟩, by decide, _, rfl⟩

theorem witness_FrameOfReadingInstructions :
    (Instr.ldaAbs 0x02 0x20).mnemonic ∈ readers ∧ (∃ t, exec (.ldaAbs 0x02 0x20) base = .next t) ∧
      (Instr.cmpImm 2).mnemonic ∈ readers ∧ ∃ t, exec (.cmpImm 2) base = .next t := ⟨by decide, ⟨_, rfl⟩, by decide, _, rfl⟩

theorem witness_FrameOfStoringInstructions :
    (Instr.staAbs 0xFF 0x1F).mnemonic ∈ storers ++ modifiers ∧ (∃ t, exec (.staAbs 0xFF 0x1F) base = .next t) ∧
      effectiveAddress (Instr.staAbs 0xFF 0x1F).operand base = some 0x1FFF ∧
      Instr.aslAcc.mnemonic ∈ storers ++ modifiers ∧ (∃ t, exec .aslAcc base = .next t) ∧
      effectiveAddress Instr.aslAcc.operand base = none := ⟨by decide, ⟨_, rfl⟩, by decide, by decide, ⟨_, rfl⟩, rfl⟩

theorem witness_FrameOfStackInstructions :
    Instr.brk.mnemonic ∈ stackUsers ∧ (∃ t, exec .brk base = .next t) ∧ Instr.pla.mnemonic ∈ stackUsers ∧
      ∃ t, exec .pla base = .next t := ⟨by decide, ⟨_, rfl⟩, by decide, _, rfl⟩

theorem witness_DecimalFlagIsInert :
    (Instr.adcImm 1).mnemonic ∉ [Mnemonic.sed, .cld, .plp, .rti, .php, .brk] ∧ (∃ t, exec .sed base = .next t) ∧
      ∃ t, exec .plp base = .next t := ⟨by decide, ⟨_, rfl⟩, _, rfl⟩

theorem witness_PowerOnState : ∃ s, s = State.powerOn { Config.default with prgBanks := .two } Image.empty Init.zero := ⟨_, rfl⟩

end Sys2Proof.Tests
end

/-! SUPPORT. CPU bus reads by region, the reads that raise, and that a read which answers is `readable` (R61, R68, R69). -/

namespace Sys2Proof.Machine

/-! ## The regions of the CPU bus (R61, R69, R70) -/

theorem not_inertApu {a : Word} (h : 0x4017 < a.toNat) : inertApu a = false := by
  simp only [inertApu, decide_eq_false_iff_not]
  omega

theorem ppuReg_eq_data {a : Word} : ppuReg a = .data ↔ a.toNat % 8 = 7 := by
  have h : a.toNat % 8 < 8 := Nat.mod_lt _ (by decide)
  rw [ppuReg]
  generalize a.toNat % 8 = n at h ⊢
  revert n
  decide

theorem memRead_ppu {a : Word} (h : 0x1FFF < a.toNat) (h' : a.toNat ≤ 0x3FFF) (s : State) :
    memRead a s = ppuRegRead (ppuReg a) s := by
  rw [memRead, if_neg (by omega), if_pos h']

theorem memRead_unmapped {a : Word} (h : 0x4018 ≤ a.toNat) (h' : a.toNat ≤ 0x401F) (s : State) :
    memRead a s = .raise (.unmappedCpuAddress a .read) s := by
  rw [memRead, if_neg (by omega), if_neg (by omega), not_inertApu (by omega), if_neg (by decide), if_neg (by omega),
    if_neg (by omega), if_pos h']

theorem memRead_cart {a : Word} (h : 0x4020 ≤ a.toNat) (s : State) : memRead a s = cartCpuRead a s := by
  rw [memRead, if_neg (by omega), if_neg (by omega), not_inertApu (by omega), if_neg (by decide), if_neg (by omega),
    if_neg (by omega), if_neg (by omega)]

theorem memWrite_ppu {a : Word} (h : 0x1FFF < a.toNat) (h' : a.toNat ≤ 0x3FFF) (v : Byte) (s : State) :
    memWrite a v s = ppuRegWrite (ppuReg a) v s := by
  rw [memWrite, if_neg (by omega), if_pos h']

theorem memWrite_dma {a : Word} (h : a.toNat = 0x4014) (v : Byte) (s : State) : memWrite a v s = oamDma v s := by
  have hi : inertApu a = false := by simp [inertApu, h]
  rw [memWrite, if_neg (by omega), if_neg (by omega), hi, if_neg (by decide), if_pos h]

theorem memWrite_unmapped {a : Word} (h : 0x4018 ≤ a.toNat) (h' : a.toNat ≤ 0x401F) (v : Byte) (s : State) :
    memWrite a v s = .raise (.unmappedCpuAddress a .write) s := by
  rw [memWrite, if_neg (by omega), if_neg (by omega), not_inertApu (by omega), if_neg (by decide), if_neg (by omega),
    if_neg (by omega), if_pos h']

theorem memWrite_cart {a : Word} (h : 0x4020 ≤ a.toNat) (v : Byte) (s : State) :
    memWrite a v s = cartCpuWrite a v s := by
  rw [memWrite, if_neg (by omega), if_neg (by omega), not_inertApu (by omega), if_neg (by decide), if_neg (by omega),
    if_neg (by omega), if_neg (by omega)]

/-! ## Reads that raise -/

theorem externalRead_eq_raise {o : Option Byte} {k e : FaultKind} {s t : State} (h : externalRead o k s = .raise e t) :
    e = k ∧ t = s := by
  cases o <;> cases h
  exact ⟨rfl, rfl⟩

theorem ppuReadLow_eq_raise {a : Word} {s t : State} {k : FaultKind} (h : ppuReadLow a s = .raise k t) : t = s := by
  simp only [ppuReadLow, cartChrRead, cartNtRead] at h
  split at h
  · cases hc : s.cfg.cart <;> rw [hc] at h
    · cases h
    · exact (externalRead_eq_raise h).2
  · split at h
    · cases hc : s.cfg.cart <;> rw [hc] at h
      · cases h
      · exact (externalRead_eq_raise h).2
    · cases h

/-- A PPU bus read that raises changes nothing (R12, R83). -/
theorem ppuRead_eq_raise {a : Word} {s t : State} {k : FaultKind} (h : ppuRead a s = .raise k t) : t = s := by
  simp only [ppuRead] at h
  split at h
  · cases hp : s.cfg.ppuAddrHigh <;> rw [hp] at h
    · cases h; rfl
    · exact ppuReadLow_eq_raise h
  · exact ppuReadLow_eq_raise h

theorem ppuDataFetch_eq_raise {a : Word} {s t : State} {k : FaultKind} (h : ppuDataFetch a s = .raise k t) : t = s := by
  simp only [ppuDataFetch] at h
  split at h
  · obtain h | ⟨r, u, h₁, h₂⟩ := Res.andThen_eq_raise.mp h
    · exact ppuRead_eq_raise h
    · cases ppuRead_eq_ok h₁
      cases hb : s.cfg.palReadBuffer <;> rw [hb] at h₂
      · cases h₂
      · obtain h | ⟨_, _, _, h₃⟩ := Res.andThen_eq_raise.mp h₂
        · exact ppuRead_eq_raise h
        · cases h₃
  · obtain h | ⟨_, _, _, h₂⟩ := Res.andThen_eq_raise.mp h
    · exact ppuRead_eq_raise h
    · cases h₂

/-- A Data read that raises changes nothing, v included (R12, R271). -/
theorem ppuDataRead_eq_raise {s t : State} {k : FaultKind} (h : ppuDataRead s = .raise k t) : t = s := by
  simp only [ppuDataRead] at h
  split at h
  · cases h; rfl
  · obtain h | ⟨_, _, _, h₂⟩ := Res.andThen_eq_raise.mp h
    · exact ppuDataFetch_eq_raise h
    · cases h₂

theorem ppuRegRead_eq_raise {r : PpuReg} {s t : State} {k : FaultKind} (h : ppuRegRead r s = .raise k t) : t = s := by
  cases r
  case data => exact ppuDataRead_eq_raise h
  all_goals cases h

theorem cartCpuRead_eq_raise {a : Word} {s t : State} {k : FaultKind} (h : cartCpuRead a s = .raise k t) :
    k = .unmappedCpuAddress a .read ∧ t = s := by
  simp only [cartCpuRead] at h
  split at h
  · split at h <;> cases h
    exact ⟨rfl, rfl⟩
  · exact externalRead_eq_raise h

/-- A CPU bus read that raises changes nothing, and from 0x4018 up it is the unmapped address (R12, R68, R85, R88). -/
theorem memRead_eq_raise {a : Word} {s t : State} {k : FaultKind} (h : memRead a s = .raise k t) :
    t = s ∧ (0x4018 ≤ a.toNat → k = .unmappedCpuAddress a .read) := by
  simp only [memRead] at h
  split at h
  · cases h
  · split at h
    · exact ⟨ppuRegRead_eq_raise h, fun _ => by omega⟩
    · split at h
      · cases h
      · split at h
        · cases h
        · split at h
          · cases h
          · split at h
            · cases h; exact ⟨rfl, fun _ => rfl⟩
            · obtain ⟨rfl, rfl⟩ := cartCpuRead_eq_raise h
              exact ⟨rfl, fun _ => rfl⟩

/-! ## Reads that answer are readable -/

theorem externalRead_isSome {o : Option Byte} {k : FaultKind} {s t : State} {b : Byte}
    (h : externalRead o k s = .ok b t) : o.isSome = true := by
  rw [(externalRead_eq_ok.mp h).1]; rfl

theorem chrReadable_of_cartChrRead {a : Word} {s t : State} {b : Byte} (h : cartChrRead a s = .ok b t) :
    chrReadable s a = true := by
  simp only [cartChrRead] at h
  cases hc : s.cfg.cart <;> simp only [chrReadable, hc] at h ⊢
  exact externalRead_isSome h

theorem ntReadable_of_cartNtRead {a : Word} {s t : State} {b : Byte} (h : cartNtRead a s = .ok b t) :
    ntReadable s a = true := by
  simp only [cartNtRead] at h
  cases hc : s.cfg.cart <;> simp only [ntReadable, hc] at h ⊢
  exact externalRead_isSome h

theorem ppuReadable_of_ppuReadLow {a : Word} {s t : State} {b : Byte} (h : ppuReadLow a s = .ok b t) :
    ppuReadable s a = true := by
  simp only [ppuReadLow] at h
  simp only [ppuReadable]
  split at h
  · rw [if_pos (by assumption)]
    exact chrReadable_of_cartChrRead h
  · rw [if_neg (by assumption)]
    split at h
    · rw [if_pos (by assumption)]
      exact ntReadable_of_cartNtRead h
    · rw [if_neg (by assumption)]

theorem ppuRead_low {a : Word} (h : a.toNat < 0x4000) (s : State) : ppuRead a s = ppuReadLow a s := by
  rw [ppuRead, if_neg (by omega)]

theorem and_3FFF_toNat (a : Word) : (a &&& 0x3FFF).toNat = a.toNat % 0x4000 := by
  rw [BitVec.toNat_and]
  exact Nat.and_two_pow_sub_one_eq_mod a.toNat 14

theorem dataAddress_toNat_lt (v : BitVec 15) : (dataAddress v).toNat < 0x4000 := by
  rw [dataAddress, and_3FFF_toNat]
  exact Nat.mod_lt _ (by decide)

/-- Where an unbuffered read of `PAL_READ_BUFFER = Underlying` looks, below the palette (R271). -/
theorem dataAddress_sub_toNat_lt {v : BitVec 15} (h : 0x3F00 ≤ (dataAddress v).toNat) :
    (dataAddress v - 0x1000).toNat < 0x4000 := by
  have := dataAddress_toNat_lt v
  have h1 : (0x1000 : Word).toNat = 0x1000 := rfl
  simp only [BitVec.toNat_sub, h1]
  omega

theorem ppuAddressed_of_not {s : State} {p : Ppu}
    (h : ¬ (0x4000 ≤ p.busAddress.toNat ∧ s.cfg.ppuAddrHigh = .fatal)) : ppuAddressed s p.v = true := by
  have hv : p.busAddress.toNat = p.v.toNat := by
    have := p.v.isLt
    simp only [Ppu.busAddress, BitVec.toNat_setWidth]
    omega
  rw [hv] at h
  simp only [ppuAddressed, Bool.or_eq_true, beq_iff_eq, decide_eq_true_eq]
  cases hp : s.cfg.ppuAddrHigh
  · exact .inr (Nat.lt_of_not_le fun hv => h ⟨hv, hp⟩)
  · exact .inl rfl

theorem dataReadable_of_ppuDataRead {s t : State} {b : Byte} (h : ppuDataRead s = .ok b t) :
    dataReadable s s.ppu.v = true := by
  simp only [ppuDataRead] at h
  split at h
  · cases h
  · rename_i hv
    obtain ⟨r, u, h₁, -⟩ := Res.andThen_eq_ok.mp h
    change ppuDataFetch (dataAddress s.ppu.v) s = _ at h₁
    simp only [ppuDataFetch, ppuRead_low (dataAddress_toNat_lt _)] at h₁
    rw [dataReadable, ppuAddressed_of_not hv, Bool.true_and, Bool.and_eq_true]
    split at h₁
    · rename_i hp
      obtain ⟨r', u', h₂, h₃⟩ := Res.andThen_eq_ok.mp h₁
      refine ⟨ppuReadable_of_ppuReadLow h₂, ?_⟩
      rw [← ppuRead_low (dataAddress_toNat_lt _)] at h₂
      cases ppuRead_eq_ok h₂
      cases hb : s.cfg.palReadBuffer <;> rw [hb] at h₃
      · simp
      · obtain ⟨b', u'', h₄, -⟩ := Res.andThen_eq_ok.mp h₃
        rw [ppuRead_low (dataAddress_sub_toNat_lt hp)] at h₄
        rw [ppuReadable_of_ppuReadLow h₄, Bool.or_true]
    · rename_i hp
      obtain ⟨r', u', h₂, -⟩ := Res.andThen_eq_ok.mp h₁
      exact ⟨ppuReadable_of_ppuReadLow h₂, by simp [Nat.lt_of_not_le hp]⟩

theorem cartReadable_of_cartCpuRead {a : Word} {s t : State} {b : Byte} (h : cartCpuRead a s = .ok b t) :
    cartReadable s a = true := by
  simp only [cartCpuRead] at h
  simp only [cartReadable]
  cases hc : s.cfg.cart <;> rw [hc] at h
  · dsimp only at h
    split at h
    · rename_i ha; exact decide_eq_true ha
    · cases h
  · exact externalRead_isSome h

/-- A CPU bus read that answers is `readable` (R61, R69). -/
theorem readable_of_memRead {a : Word} {s t : State} {b : Byte} (h : memRead a s = .ok b t) : readable s a = true := by
  simp only [readable]
  split
  · rfl
  · split
    · split
      · rename_i hl hh h7
        rw [memRead_ppu (by omega) hh, ppuReg_eq_data.mpr h7] at h
        exact dataReadable_of_ppuDataRead h
      · rfl
    · split
      · rfl
      · split
        · rw [memRead_unmapped (by omega) (by assumption)] at h
          cases h
        · rw [memRead_cart (by omega)] at h
          exact cartReadable_of_cartCpuRead h

/-- A read that is not `readable` raises, with nothing changed, and from 0x4018 up it is the unmapped address (R12, R68,
R85, R88). -/
theorem memRead_of_not_readable {a : Word} {s : State} (h : readable s a = false) :
    ∃ k, memRead a s = .raise k s ∧ (0x4018 ≤ a.toNat → k = .unmappedCpuAddress a .read) := by
  cases hr : memRead a s with
  | ok b t => rw [readable_of_memRead hr] at h; cases h
  | raise k t =>
    obtain ⟨rfl, hk⟩ := memRead_eq_raise hr
    exact ⟨k, rfl, hk⟩

end Sys2Proof.Machine

/-! SUPPORT. OAM DMA and the writes that complete are `writable`, the shape of each kind of instruction, and rejected
accesses (O20). -/

namespace Sys2Proof.Machine

/-! ## OAM DMA (R315, R316) -/

/-- What a completed counted loop went through: each of its actions completed, from the loop's invariant at its number. -/
theorem forEach_range_steps {P : Nat → State → Prop} {f : Nat → State → Res Unit} {n : Nat}
    (hf : ∀ k < n, ∀ u v, P k u → f k u = .ok () v → P (k + 1) v) {s t : State} (h₀ : P 0 s)
    (h : forEach (List.range n) f s = .ok () t) : P n t ∧ ∀ k < n, ∃ u v, P k u ∧ f k u = .ok () v := by
  induction n generalizing t with
  | zero => cases h; exact ⟨h₀, fun k hk => absurd hk (by omega)⟩
  | succ n ih =>
    rw [List.range_succ, forEach_append] at h
    obtain ⟨_, u, h₁, h₂⟩ := Res.andThen_eq_ok.mp h
    obtain ⟨_, v, h₃, h₄⟩ := Res.andThen_eq_ok.mp h₂
    cases h₄
    obtain ⟨hn, hk⟩ := ih (fun k hk => hf k (by omega)) h₁
    refine ⟨hf n (by omega) u t hn h₃, fun k hk' => ?_⟩
    rcases Nat.lt_succ_iff_lt_or_eq.mp hk' with hlt | rfl
    · exact hk k hlt
    · exact ⟨u, t, hn, h₃⟩

theorem dmaSource_toNat (page : Byte) {i : Nat} (hi : i < 256) : (dmaSource page i).toNat = page.toNat * 256 + i := by
  have := page.isLt
  simp only [dmaSource, BitVec.toNat_ofNat]
  omega

/-- The address in v before the DMA's read number `i` from a page of PPU registers: one Data read in eight (R316). -/
theorem dmaVram_succ (s : State) (k : Nat) :
    dmaVram s (k + 1) = dmaVram s k + (if s.ppu.ctrl.getLsbD 2 then 32 else 1) := by
  simp only [dmaVram, Nat.add_mul, Nat.one_mul, BitVec.ofNat_add, BitVec.add_assoc]
  split <;> rfl

/-- Where an OAM DMA that began in `s` stands before its read number `i`: what its reads answer from is as in `s`, but for
v, which each Data read of a page of PPU registers has advanced (R273, R316). -/
structure DmaAt (s : State) (page : Byte) (i : Nat) (t : State) : Prop where
  cfg : t.cfg = s.cfg
  cart : t.cart = s.cart
  ctrl : t.ppu.ctrl = s.ppu.ctrl
  vram : 0x20 ≤ page.toNat → page.toNat < 0x40 → t.ppu.v = dmaVram s (i / 8)

theorem dmaAt_zero (s : State) (page : Byte) : DmaAt s page 0 s :=
  ⟨rfl, rfl, rfl, fun _ _ => by simp [dmaVram]⟩

/-- Of a page of PPU registers, only the reads of Data move v (R263, R267, R271). -/
theorem ppuRegRead_v {r : PpuReg} {s t : State} {b : Byte} (h : ppuRegRead r s = .ok b t) :
    t.ppu.v = if r = .data then s.ppu.incremented else s.ppu.v := by
  cases r
  case data =>
    obtain ⟨c, rfl⟩ := ppuDataRead_eq_ok h
    rfl
  all_goals cases h; rfl

theorem memRead_ctrl {a : Word} {s t : State} {b : Byte} (h : memRead a s = .ok b t) : t.ppu.ctrl = s.ppu.ctrl := by
  obtain ⟨vb, w, v, c, sh, rfl, -⟩ := memRead_eq_ok h
  rfl

theorem dmaByte_keeps {s : State} {page : Byte} {i : Nat} (hi : i < 256) {t u : State} (p : DmaAt s page i t)
    (h : dmaByte page i t = .ok () u) : DmaAt s page (i + 1) u := by
  obtain ⟨b, w, hr, hw⟩ := Res.andThen_eq_ok.mp h
  cases hw
  have f := memRead_frame hr
  refine ⟨f.1.cfg.trans p.cfg, f.2.2.2.2.trans p.cart, (memRead_ctrl hr).trans p.ctrl, fun hl hh => ?_⟩
  have ha := dmaSource_toNat page hi
  rw [memRead_ppu (by omega) (by omega)] at hr
  have hv : w.ppu.v = dmaVram s ((i + 1) / 8) := by
    rw [ppuRegRead_v hr, p.vram hl hh]
    simp only [ppuReg_eq_data, Ppu.incremented, p.ctrl, p.vram hl hh]
    split
    · rw [show (i + 1) / 8 = i / 8 + 1 by omega, dmaVram_succ]
    · rw [show (i + 1) / 8 = i / 8 by omega]
  exact hv

/-- A completed OAM DMA read all its 256 source bytes, each in a state as `DmaAt` says. -/
theorem oamDma_reads {page : Byte} {s t : State} (h : oamDma page s = .ok () t) {i : Nat} (hi : i < 256) :
    ∃ u, DmaAt s page i u ∧ readable u (dmaSource page i) = true := by
  obtain ⟨_, w, hl, -⟩ := Res.andThen_eq_ok.mp h
  obtain ⟨u, v, p, hb⟩ := (forEach_range_steps (fun _ hk _ _ => dmaByte_keeps hk) (dmaAt_zero s page) hl).2 i hi
  obtain ⟨b, x, hr, -⟩ := Res.andThen_eq_ok.mp hb
  exact ⟨u, p, readable_of_memRead hr⟩

theorem readable_data {a : Word} (h : 0x1FFF < a.toNat) (h' : a.toNat ≤ 0x3FFF) (h7 : a.toNat % 8 = 7) (s : State) :
    readable s a = dataReadable s s.ppu.v := by
  rw [readable, if_neg (by omega), if_pos h', if_pos h7]

theorem readable_cart {a : Word} (h : 0x4020 ≤ a.toNat) (s : State) : readable s a = cartReadable s a := by
  rw [readable, if_neg (by omega), if_neg (by omega), if_neg (by omega), if_neg (by omega)]

theorem dataReadable_congr {s t : State} (hc : t.cfg = s.cfg) (hk : t.cart = s.cart) (v : BitVec 15) :
    dataReadable t v = dataReadable s v := by
  simp only [dataReadable, ppuAddressed, ppuReadable, chrReadable, ntReadable, hc, hk]

theorem cartReadable_congr {s t : State} (hc : t.cfg = s.cfg) (hk : t.cart = s.cart) (a : Word) :
    cartReadable t a = cartReadable s a := by
  simp only [cartReadable, hc, hk]

/-- An OAM DMA that completes had all its source reads answer (R316). -/
theorem dmaReadable_of_oamDma {page : Byte} {s t : State} (h : oamDma page s = .ok () t) : dmaReadable s page = true := by
  have source := fun {i : Nat} (hi : i < 256) => dmaSource_toNat page hi
  simp only [dmaReadable]
  split
  · rfl
  · split
    · refine List.all_eq_true.mpr fun k hk => ?_
      have hk' := List.mem_range.mp hk
      obtain ⟨u, p, hu⟩ := oamDma_reads h (i := 8 * k + 7) (by omega)
      have ha := source (i := 8 * k + 7) (by omega)
      rwa [readable_data (by omega) (by omega) (by omega), p.vram (by omega) (by omega),
        dataReadable_congr p.cfg p.cart, show (8 * k + 7) / 8 = k by omega] at hu
    · split
      · obtain ⟨u, -, hu⟩ := oamDma_reads h (i := 0x18) (by decide)
        have ha := source (i := 0x18) (by decide)
        rwa [readable, if_neg (by omega), if_neg (by omega), if_neg (by omega), if_pos (by omega)] at hu
      · refine List.all_eq_true.mpr fun i hi => ?_
        have hi' := List.mem_range.mp hi
        obtain ⟨u, p, hu⟩ := oamDma_reads h hi'
        have ha := source hi'
        rwa [readable_cart (by omega), cartReadable_congr p.cfg p.cart] at hu

/-! ## Writes that complete are writable -/

theorem externalWrite_isSome {o : Option Nat} {k : FaultKind} {s t : State} (h : externalWrite o k s = .ok () t) :
    o.isSome = true := by
  cases o
  · cases h
  · rfl

theorem chrWritable_of_cartChrWrite {a : Word} {v : Byte} {s t : State} (h : cartChrWrite a v s = .ok () t) :
    chrWritable s a v = true := by
  simp only [cartChrWrite] at h
  cases hc : s.cfg.cart <;> simp only [chrWritable, hc] at h ⊢
  · cases hw : s.cfg.chrWrite <;> simp only [hw] at h ⊢
    · cases h
    · decide
    · decide
  · exact externalWrite_isSome h

theorem ntWritable_of_cartNtWrite {a : Word} {v : Byte} {s t : State} (h : cartNtWrite a v s = .ok () t) :
    ntWritable s a v = true := by
  simp only [cartNtWrite] at h
  cases hc : s.cfg.cart <;> simp only [ntWritable, hc] at h ⊢
  exact externalWrite_isSome h

theorem ppuWritable_of_ppuWriteLow {a : Word} {v : Byte} {s t : State} (h : ppuWriteLow a v s = .ok () t) :
    ppuWritable s a v = true := by
  simp only [ppuWriteLow] at h
  simp only [ppuWritable]
  split at h
  · rw [if_pos (by assumption)]
    exact chrWritable_of_cartChrWrite h
  · rw [if_neg (by assumption)]
    split at h
    · rw [if_pos (by assumption)]
      exact ntWritable_of_cartNtWrite h
    · rw [if_neg (by assumption)]

theorem dataWritable_of_ppuDataWrite {d : Byte} {s t : State} (h : ppuDataWrite d s = .ok () t) :
    dataWritable s d = true := by
  obtain ⟨_, u, hw, -⟩ := Res.andThen_eq_ok.mp h
  have ha : ¬ (0x4000 ≤ s.ppu.busAddress.toNat ∧ s.cfg.ppuAddrHigh = .fatal) := by
    rintro ⟨hv, hp⟩
    simp only [ppuWrite, if_pos hv, hp] at hw
    cases hw
  have hl : ppuWriteLow (dataAddress s.ppu.v) d s = .ok () u := by
    simp only [ppuWrite] at hw
    split at hw
    · cases hp : s.cfg.ppuAddrHigh <;> simp only [hp] at hw
      · cases hw
      · exact hw
    · rename_i hv
      have e : s.ppu.busAddress = dataAddress s.ppu.v := by
        apply BitVec.eq_of_toNat_eq
        change _ = (s.ppu.busAddress &&& 0x3FFF).toNat
        rw [and_3FFF_toNat]
        omega
      rwa [e] at hw
  rw [dataWritable, ppuAddressed_of_not ha, ppuWritable_of_ppuWriteLow hl]
  rfl

theorem cartWritable_of_cartCpuWrite {a : Word} {v : Byte} {s t : State} (h : cartCpuWrite a v s = .ok () t) :
    cartWritable s a v = true := by
  simp only [cartCpuWrite] at h
  cases hc : s.cfg.cart <;> simp only [cartWritable, hc] at h ⊢
  · split at h
    · rename_i ha
      cases hw : s.cfg.prgWrite <;> simp only [hw] at h ⊢
      · cases h
      · rw [decide_eq_true ha]; rfl
    · cases h
  · exact externalWrite_isSome h

/-- A CPU bus write that completes is `writable` (R61, R70). -/
theorem writable_of_memWrite {a : Word} {v : Byte} {s t : State} (h : memWrite a v s = .ok () t) :
    writable s a v = true := by
  simp only [writable]
  split
  · rfl
  · split
    · split
      · rename_i hl hh h7
        rw [memWrite_ppu (by omega) hh, ppuReg_eq_data.mpr h7] at h
        exact dataWritable_of_ppuDataWrite h
      · rfl
    · split
      · rename_i ha
        rw [memWrite_dma ha] at h
        exact dmaReadable_of_oamDma h
      · split
        · rfl
        · split
          · rw [memWrite_unmapped (by omega) (by assumption)] at h
            cases h
          · rw [memWrite_cart (by omega)] at h
            exact cartWritable_of_cartCpuWrite h

/-! ## Writes that raise -/

theorem cartCpuWrite_eq_raise {a : Word} {v : Byte} {s t : State} {k : FaultKind} (h : cartCpuWrite a v s = .raise k t) :
    k = .unmappedCpuAddress a .write ∧ t = s := by
  simp only [cartCpuWrite] at h
  split at h
  · split at h
    · split at h <;> cases h
      exact ⟨rfl, rfl⟩
    · cases h
      exact ⟨rfl, rfl⟩
  · cases hw : Config.cartCpuWrite s.cart.external a v <;> rw [hw] at h <;> cases h
    exact ⟨rfl, rfl⟩

/-- A write that is not `writable` raises, and from 0x4018 up it is the unmapped address, with nothing changed (R12, R68,
R85, R88). -/
theorem memWrite_of_not_writable {a : Word} {v : Byte} {s : State} (h : writable s a v = false) :
    ∃ k u, memWrite a v s = .raise k u ∧ (0x4018 ≤ a.toNat → k = .unmappedCpuAddress a .write ∧ u = s) := by
  cases hw : memWrite a v s with
  | ok b t => rw [writable_of_memWrite hw] at h; cases h
  | raise k u =>
    refine ⟨k, u, rfl, fun ha => ?_⟩
    by_cases hu : a.toNat ≤ 0x401F
    · rw [memWrite_unmapped ha hu] at hw
      cases hw
      exact ⟨rfl, rfl⟩
    · rw [memWrite_cart (by omega)] at hw
      exact cartCpuWrite_eq_raise hw

/-! ## The shape of an instruction by its kind -/

/-- A reading instruction loads its operand and then changes registers and flags from the byte (R135). -/
theorem actionOf_reader {m : Mnemonic} (h : m ∈ readers) :
    ∃ last : Byte → State → State, ∀ r s, actionOf m r s = (loadOperand r s).andThen fun b t => .ok () (last b t) := by
  cases m
  case lda | ldx | ldy | lax | adc | sbc | and | ora | eor | cmp | cpx | cpy | bit => exact ⟨_, fun _ _ => rfl⟩
  all_goals exact absurd h (by decide)

theorem rorResult_eq (m : Byte) (c : Bool) : rorResult m c = m >>> 1 ||| (if c then 0x80 else 0) := by
  cases c <;> rfl

/-- The last change of a read-modify-write instruction, from the byte written and the state the write leaves (R172, R173,
R191-R194, R244-R249). -/
def rmwLast (m : Mnemonic) (b : Byte) (t : State) : State :=
  match m with
  | .dcp => t.compare t.cpu.a b
  | .isb => t.addWithCarry (~~~b)
  | .rra => t.addWithCarry b
  | .slo => (t.setA (t.cpu.a ||| b)).setNZ (t.cpu.a ||| b)
  | .rla => (t.setA (t.cpu.a &&& b)).setNZ (t.cpu.a &&& b)
  | .sre => (t.setA (t.cpu.a ^^^ b)).setNZ (t.cpu.a ^^^ b)
  | _ => t.setNZ b

/-- A read-modify-write instruction writes back `rmwResult` with C at `rmwCarry`, and then makes its last change (R190). -/
theorem actionOf_modifier {m : Mnemonic} (h : m ∈ modifiers) :
    actionOf m =
      rmw (fun b t => rmwResult m t.cpu.flags.c b) (fun b t => t.setC (rmwCarry m t.cpu.flags.c b)) (rmwLast m) := by
  cases m
  case asl | lsr | rol | inc | dec | slo | rla | sre | dcp | isb => rfl
  case ror | rra => simp only [rmwResult, ← rorResult_eq]; rfl
  all_goals exact absurd h (by decide)

/-- A store writes its register to its operand (R143-R145, R242). -/
theorem actionOf_store {m : Mnemonic} {v : Byte} {s : State}
    (h : (m = .sta ∧ v = s.cpu.a) ∨ (m = .stx ∧ v = s.cpu.x) ∨ (m = .sty ∧ v = s.cpu.y)
      ∨ (m = .sax ∧ v = s.cpu.a &&& s.cpu.x)) (r : Resolved) : actionOf m r s = storeOperand r v s := by
  rcases h with ⟨rfl, rfl⟩ | ⟨rfl, rfl⟩ | ⟨rfl, rfl⟩ | ⟨rfl, rfl⟩ <;> rfl

/-- An instruction that reads its operand, for itself or to write it back, stops where the read raises (R135, R190). -/
theorem actionOf_read_raise {m : Mnemonic} (h : m ∈ readers ++ modifiers) {a : Word} {s t : State} {k : FaultKind}
    (hr : memRead a s = .raise k t) : actionOf m (.addr a) s = .raise k t := by
  rcases List.mem_append.mp h with h | h
  · obtain ⟨last, e⟩ := actionOf_reader h
    rw [e, loadOperand, hr, Res.andThen_raise]
  · rw [actionOf_modifier h, rmw, loadOperand, hr, Res.andThen_raise]

/-- A read-modify-write instruction stops where its write raises, its read and its C done (R190). -/
theorem actionOf_write_raise {m : Mnemonic} (h : m ∈ modifiers) {a : Word} {b : Byte} {s t u : State} {k : FaultKind}
    (hr : memRead a s = .ok b t)
    (hw : memWrite a (rmwResult m t.cpu.flags.c b) (t.setC (rmwCarry m t.cpu.flags.c b)) = .raise k u) :
    actionOf m (.addr a) s = .raise k u := by
  rw [actionOf_modifier h, rmw, loadOperand, hr, Res.andThen_ok, storeOperand, hw, Res.andThen_raise]

theorem operand_of_undefined {i : Instr} (h : i.mnemonic = .undefined) : i.operand = .imp := by
  cases i <;> first | rfl | exact Mnemonic.noConfusion h

/-- An instruction with an effective address whose action on it raises faults, with what was done before the raise
(R12, R331). -/
theorem exec_eq_fault {i : Instr} {s u : State} {a : Word} {k : FaultKind} (ha : effectiveAddress i.operand s = some a)
    (hb : actionOf i.mnemonic (.addr a) (resolved i.operand s) = .raise k u) :
    exec i s = .fault (.fatal k { u with fault := some k }) := by
  have hm : i.mnemonic ≠ .undefined := fun h => by
    rw [operand_of_undefined h] at ha
    cases ha
  rw [exec_eq i s hm, perform, resolve_address ha, Res.andThen_ok, hb]
  rfl

/-- Settles O20, by the shape of each kind of instruction and by what a rejected bus access raises. -/
theorem rejectedAccessFaults : Obligations.RejectedAccessFaults := by
  unfold Obligations.RejectedAccessFaults
  refine ⟨fun i s a hm ha hr => ?_, fun i s a v hm ha hw => ?_, fun i s t u a m v hm ha hr hv hw hu => ?_⟩
  · have hr' : readable (resolved i.operand s) a = false := hr
    obtain ⟨k, hk, haddr⟩ := memRead_of_not_readable hr'
    exact ⟨k, exec_eq_fault ha (actionOf_read_raise hm hk), fun hl _ => haddr hl⟩
  · have hw' : writable (resolved i.operand s) a v = false := hw
    obtain ⟨k, u, hk, haddr⟩ := memWrite_of_not_writable hw'
    refine ⟨k, u, exec_eq_fault ha ?_, hk, fun hl _ => haddr hl⟩
    rw [actionOf_store (s := resolved i.operand s) hm, storeOperand, hk]
  · have hc : t.cpu.flags.c = s.cpu.flags.c := by rw [(memRead_frame hr).2.1]; rfl
    have hw' : writable u a v = false := by rw [hu]; exact hw
    obtain ⟨k, w, hk, haddr⟩ := memWrite_of_not_writable hw'
    refine ⟨k, w, exec_eq_fault ha (actionOf_write_raise hm hr ?_), hk, fun hl _ => haddr (by omega)⟩
    rw [hc, ← hv, show t.setC _ = u from hu.symm, hk]

end Sys2Proof.Machine

/-! SUPPORT. The background of a scanline under the default cartridge, pixel by pixel, and palette bytes out of range
(O39). -/

namespace Sys2Proof.Machine

/-! ## Colours (R295) -/

/-- A palette byte that has a colour: one below 0x40, or any under `PAL_RANGE = Mask6` (R295). -/
theorem colour_of_inRange {p : Byte} {s : State} (h : p.toNat < 0x40 ∨ s.cfg.palRange = .mask6) :
    colour p s = .ok (s.cfg.systemPalette[p.toNat % 64]'(Nat.mod_lt _ (by decide))) s := by
  rcases h with h | h
  · rw [colour, if_neg (by omega)]
  · simp only [colour, h, ite_self]

theorem colour_of_outOfRange {p : Byte} {s : State} (h : 0x40 ≤ p.toNat) (hf : s.cfg.palRange = .fatal) :
    colour p s = .raise (.paletteRange p) s := by
  simp only [colour, if_pos h, hf]

/-! ## PPU bus reads under the default cartridge (R86, R87) -/

theorem ppuRead_chr {s : State} {a : Nat} (hc : s.cfg.cart = .nrom) (h : a < 0x2000) :
    ppuRead (BitVec.ofNat 16 a) s = .ok (s.cart.chr.read a) s := by
  have ha : (BitVec.ofNat 16 a).toNat = a := by rw [BitVec.toNat_ofNat]; omega
  simp only [ppuRead, ppuReadLow, cartChrRead, hc, ha]
  rw [if_neg (by omega), if_pos (by omega)]

theorem ppuRead_nt {s : State} {a : Nat} (hc : s.cfg.cart = .nrom) (h : 0x2000 ≤ a) (h' : a < 0x3F00) :
    ppuRead (BitVec.ofNat 16 a) s = .ok (ntByte s a) s := by
  have ha : (BitVec.ofNat 16 a).toNat = a := by rw [BitVec.toNat_ofNat]; omega
  simp only [ppuRead, ppuReadLow, cartNtRead, hc, ha]
  rw [if_neg (by omega), if_neg (by omega), if_pos (by omega)]
  rfl

/-! ## One tile of the background (R291-R294) -/

/-- The palette byte shown at column `x` of the background of scanline `sl`. -/
def backgroundByte (s : State) (sl x : Nat) : Byte := s.ppu.pal.read (backgroundIndex s sl x)

/-- The pattern address of the row a tile column shows on scanline `sl` (R291). -/
def tilePattern (s : State) (sl col : Nat) : Nat :=
  bgTable s.ppu + (ntByte s (ntBase s.ppu + sl / 8 * 32 + col)).toNat * 16 + sl % 8

/-- The palette index of pixel `px` of a tile column on scanline `sl`, from the tile's four reads and the registers `p`
(R291-R294, R297). -/
def tileIndex (s : State) (sl col : Nat) (p : Ppu) (px : Nat) : Nat :=
  bgPalIndex p (attrGroup (ntByte s (ntBase s.ppu + 0x3C0 + sl / 8 / 4 * 8 + col / 4)) (sl / 8) col)
    (pixelBits (s.cart.chr.read (tilePattern s sl col)) (s.cart.chr.read (tilePattern s sl col + 8)) (7 - px))

theorem tilePattern_lt (s : State) (sl col : Nat) : tilePattern s sl col + 8 < 0x2000 := by
  have := bgTable_le s.ppu
  have := (ntByte s (ntBase s.ppu + sl / 8 * 32 + col)).isLt
  simp only [tilePattern]
  omega

theorem tileIndex_eq (s : State) (sl col : Nat) {px : Nat} (hp : px < 8) :
    tileIndex s sl col s.ppu px = backgroundIndex s sl (col * 8 + px) := by
  have h₁ : (col * 8 + px) / 8 = col := by omega
  have h₂ : (col * 8 + px) / 32 = col / 4 := by omega
  have h₃ : (col * 8 + px) / 16 = col / 2 := by omega
  have h₄ : (col * 8 + px) % 8 = px := by omega
  have h₅ : sl / 32 = sl / 8 / 4 := by omega
  have h₆ : sl / 16 = sl / 8 / 2 := by omega
  have h₇ : bgTable s.ppu = if s.ppu.ctrl.getLsbD 4 then 0x1000 else 0 := by
    simp only [bgTable, bit]; split <;> rfl
  have h₈ : ∀ lo hi : Bool, bit hi * 2 + bit lo = (if hi then 2 else 0) + (if lo then 1 else 0) := by decide
  simp only [tileIndex, tilePattern, bgPalIndex, attrGroup, pixelBits, backgroundIndex, ntBase, h₁, h₂, h₃, h₄, h₅, h₆,
    h₇, h₈]

theorem bgPalIndex_lt (p : Ppu) {group c : Nat} (hg : group < 4) (hc : c < 4) : bgPalIndex p group c < 16 := by
  simp only [bgPalIndex]
  split <;> omega

theorem pixelBits_lt (lo hi : Byte) (b : Nat) : pixelBits lo hi b < 4 := by
  have key : ∀ l h : Bool, bit h * 2 + bit l < 4 := by decide
  exact key _ _

theorem backgroundIndex_lt (s : State) (sl x : Nat) : backgroundIndex s sl x < 16 := by
  rw [← Nat.div_add_mod' x 8, ← tileIndex_eq s sl (x / 8) (Nat.mod_lt x (by decide))]
  exact bgPalIndex_lt _ (Nat.mod_lt _ (by decide)) (pixelBits_lt _ _ _)

/-- A background palette index is none of the four aliases of R81. -/
theorem palByte_backgroundIndex (s : State) (sl x : Nat) :
    palByte s.ppu (backgroundIndex s sl x) = backgroundByte s sl x := by
  have h := backgroundIndex_lt s sl x
  have e : palIndex (0x3F00 + backgroundIndex s sl x) = backgroundIndex s sl x := by
    simp only [palIndex]
    rw [if_neg (by omega)]
    omega
  rw [palByte, e, backgroundByte]

/-- Under the default cartridge a visible scanline's tile is its eight pixels (R291). -/
theorem backgroundTile_eq {s : State} {sl col : Nat} (hn : s.cfg.cart = .nrom) (hl : sl ≤ 239) (hc : col < 32) :
    backgroundTile sl col s =
      forEach (List.range 8) (fun px t => setPixel (col * 8 + px) sl (tileIndex s sl col t.ppu px) t) s := by
  have hb : ntBase s.ppu ≤ 0x2C00 := ntBase_le s.ppu
  have hb' : 0x2000 ≤ ntBase s.ppu := Nat.le_add_right _ _
  have hp := tilePattern_lt s sl col
  have tile := ppuRead_nt (a := ntBase s.ppu + sl / 8 * 32 + col) hn (by omega) (by omega)
  have low := ppuRead_chr (a := tilePattern s sl col) hn (by omega)
  have high := ppuRead_chr (a := tilePattern s sl col + 8) hn hp
  have attr := ppuRead_nt (a := ntBase s.ppu + 0x3C0 + sl / 8 / 4 * 8 + col / 4) hn (by omega) (by omega)
  simp only [tilePattern] at low high
  simp only [backgroundTile, tile, low, high, attr, Res.andThen_ok]
  rfl

/-! ## The background up to a pixel (R290-R297, R305) -/

/-- The first `n` background pixels of scanline `sl` are drawn and nothing else has changed since `s`. -/
structure Drawn (s : State) (sl n : Nat) (t : State) : Prop where
  fbOnly : t = s.setFb t.fb
  left : ∀ y < n, some (pixelAt t.fb y sl) = s.cfg.systemPalette[(backgroundByte s sl y).toNat % 64]?
  rest : ∀ row y, row ≤ 239 → y < 256 → row ≠ sl ∨ n ≤ y → pixelAt t.fb y row = pixelAt s.fb y row

theorem drawn_zero (s : State) (sl : Nat) : Drawn s sl 0 s :=
  ⟨rfl, fun _ h => absurd h (by omega), fun _ _ _ _ _ => rfl⟩

theorem Drawn.ppu {s t : State} {sl n : Nat} (h : Drawn s sl n t) : t.ppu = s.ppu := by rw [h.fbOnly]; rfl

theorem Drawn.cfg {s t : State} {sl n : Nat} (h : Drawn s sl n t) : t.cfg = s.cfg := by rw [h.fbOnly]; rfl

theorem tileIndex_of_drawn {s t : State} {sl n : Nat} (h : Drawn s sl n t) (col : Nat) {px : Nat} (hp : px < 8)
    {u : State} (hu : u.ppu = s.ppu) : tileIndex t sl col u.ppu px = backgroundIndex s sl (col * 8 + px) := by
  rw [hu, ← tileIndex_eq s sl col hp, h.fbOnly]
  rfl

theorem palByte_of_drawn {s t : State} {sl n : Nat} (h : Drawn s sl n t) (x : Nat) :
    palByte t.ppu (backgroundIndex s sl x) = backgroundByte s sl x := by
  rw [h.ppu, palByte_backgroundIndex]

/-- A pixel whose palette byte has a colour is drawn (R295, R305). -/
theorem setPixel_drawn {s t : State} {sl n : Nat} (h : Drawn s sl n t) (hl : sl ≤ 239) (hn : n < 256)
    (hr : (backgroundByte s sl n).toNat < 0x40 ∨ s.cfg.palRange = .mask6) :
    ∃ u, setPixel n sl (backgroundIndex s sl n) t = .ok () u ∧ Drawn s sl (n + 1) u := by
  have hc := colour_of_inRange (s := t) (h.cfg ▸ hr)
  rw [← palByte_of_drawn h] at hc
  refine ⟨_, setPixel_eq hc, by rw [h.fbOnly]; rfl, fun y hy => ?_, fun row y hrow hy hne => ?_⟩
  · simp only [State.setFb_fb, pixelAt_write t.fb _ hn (show sl < 240 by omega) (show y < 256 by omega), and_true]
    split
    · rename_i e
      subst e
      rw [palByte_of_drawn h, h.cfg, Vector.getElem?_eq_getElem]
    · exact h.left y (by omega)
  · rw [State.setFb_fb, pixelAt_write t.fb _ hn (by omega) hy, if_neg (by omega)]
    exact h.rest row y hrow hy (by omega)

/-- The first `k` pixels of a tile are drawn after those of the tiles before it. -/
theorem tilePixels_drawn {s t : State} {sl col k : Nat} (h : Drawn s sl (col * 8) t) (hl : sl ≤ 239) (hc : col < 32)
    (hk : k ≤ 8)
    (hr : ∀ y < col * 8 + k, (backgroundByte s sl y).toNat < 0x40 ∨ s.cfg.palRange = .mask6) :
    ∃ u, forEach (List.range k) (fun px v => setPixel (col * 8 + px) sl (tileIndex t sl col v.ppu px) v) t = .ok () u
      ∧ Drawn s sl (col * 8 + k) u := by
  refine forEach_range_inv (P := fun px v => Drawn s sl (col * 8 + px) v) (fun px hp v hv => ?_) h
  rw [tileIndex_of_drawn h col (by omega) hv.ppu]
  exact setPixel_drawn hv hl (by omega) (hr _ (by omega))

/-- The first `n` tiles of a visible scanline whose palette bytes have colours are drawn. -/
theorem backgroundTiles_drawn {s : State} {sl n : Nat} (hn : s.cfg.cart = .nrom) (hl : sl ≤ 239) (hk : n ≤ 32)
    (hr : ∀ y < n * 8, (backgroundByte s sl y).toNat < 0x40 ∨ s.cfg.palRange = .mask6) :
    ∃ t, forEach (List.range n) (backgroundTile sl) s = .ok () t ∧ Drawn s sl (n * 8) t := by
  refine forEach_range_inv (P := fun col t => Drawn s sl (col * 8) t) (fun col hc t h => ?_) (by simpa using drawn_zero s sl)
  rw [backgroundTile_eq (h.cfg ▸ hn) hl (by omega), Nat.succ_mul]
  exact tilePixels_drawn h hl (by omega) (Nat.le_refl 8) fun y hy => hr y (by omega)

/-- The first palette byte out of range stops the background where it stands (R12, R295). -/
theorem backgroundPass_raise {s : State} {sl x : Nat} (hn : s.cfg.cart = .nrom) (hl : sl ≤ 239) (hx : x < 256)
    (hf : s.cfg.palRange = .fatal) (hp : 0x40 ≤ (backgroundByte s sl x).toNat)
    (hr : ∀ y < x, (backgroundByte s sl y).toNat < 0x40) :
    ∃ t, backgroundPass sl s = .raise (.paletteRange (backgroundByte s sl x)) t ∧ Drawn s sl x t := by
  have hx' : x / 8 * 8 + x % 8 = x := Nat.div_add_mod' x 8
  obtain ⟨t, ht, dt⟩ := backgroundTiles_drawn (n := x / 8) hn hl (by omega) fun y hy => .inl (hr y (by omega))
  obtain ⟨u, hu, du⟩ := tilePixels_drawn dt (k := x % 8) hl (by omega) (by omega) fun y hy => .inl (hr y (by omega))
  rw [hx'] at du
  refine ⟨u, forEach_range_raise (k := x / 8) (by omega) ht ?_, du⟩
  rw [backgroundTile_eq (dt.cfg ▸ hn) hl (by omega)]
  refine forEach_range_raise (Nat.mod_lt x (by decide)) hu ?_
  rw [tileIndex_of_drawn dt _ (Nat.mod_lt x (by decide)) du.ppu, hx', setPixel, palByte_of_drawn du,
    colour_of_outOfRange hp (du.cfg ▸ hf), Res.andThen_raise]

/-- Settles O39, by drawing the background pixel by pixel up to the first palette byte out of range. -/
theorem paletteByteOutOfRange : Obligations.PaletteByteOutOfRange := by
  unfold Obligations.PaletteByteOutOfRange
  refine ⟨fun p s => ⟨fun h => ⟨_, colour_of_inRange h, (Vector.getElem?_eq_getElem _).symm⟩, colour_of_outOfRange⟩, ?_⟩
  rintro sl x p s hl hx hn hf rfl hp hr
  obtain ⟨t, ht, d⟩ := backgroundPass_raise hn hl hx hf hp hr
  refine ⟨t.fb, ?_, fun y hy => ?_, d.rest⟩
  · rw [renderScanline, ht, Res.andThen_raise, d.fbOnly]
    rfl
  · rw [d.left y hy, backgroundByte, Nat.mod_eq_of_lt (hr y hy)]

end Sys2Proof.Machine

/-! SUPPORT. The host's calls and the step by its agent, and what every step keeps: the invariant (O8), the parameters
and the ROM (O10), the pixels but for the raster's (O11). -/

namespace Sys2Proof.Machine

/-! ## The host's calls (R310, R324, R361) -/

theorem foldl_hostCall_eq (l : List HostCall) (s : State) :
    ∃ r c, l.foldl hostCall s = (s.setResetPending r).setCtl c := by
  induction l generalizing s with
  | nil => exact ⟨s.cpu.resetPending, s.ctl, rfl⟩
  | cons call l ih =>
    obtain ⟨r, c, h⟩ := ih (hostCall s call)
    rw [List.foldl_cons, h]
    cases call with
    | update button pressed => exact ⟨r, c, rfl⟩
    | hostReset => exact ⟨r, c, rfl⟩

/-- The host's calls of a step latch a reset and update the controller; all else they change is the queue (R324, log 6). -/
theorem hostCalls_eq (s : State) :
    ∃ r c, hostCalls s = { s with cpu := { s.cpu with resetPending := r }, ctl := c, host := s.host.tail } := by
  cases hq : s.host with
  | nil =>
    have e : hostCalls s = s := by simp only [hostCalls, hq]
    exact ⟨s.cpu.resetPending, s.ctl, by rw [e, List.tail_nil, ← hq]⟩
  | cons now later =>
    have e : hostCalls s = now.foldl hostCall { s with host := later } := by simp only [hostCalls, hq]
    obtain ⟨r, c, h⟩ := foldl_hostCall_eq now { s with host := later }
    exact ⟨r, c, e.trans h⟩

@[simp] theorem hostCalls_cfg (s : State) : (hostCalls s).cfg = s.cfg := by
  obtain ⟨r, c, e⟩ := hostCalls_eq s
  rw [e]

@[simp] theorem hostCalls_cart (s : State) : (hostCalls s).cart = s.cart := by
  obtain ⟨r, c, e⟩ := hostCalls_eq s
  rw [e]

@[simp] theorem hostCalls_fb (s : State) : (hostCalls s).fb = s.fb := by
  obtain ⟨r, c, e⟩ := hostCalls_eq s
  rw [e]

@[simp] theorem hostCalls_ppu (s : State) : (hostCalls s).ppu = s.ppu := by
  obtain ⟨r, c, e⟩ := hostCalls_eq s
  rw [e]

@[simp] theorem hostCalls_nmiPending (s : State) : (hostCalls s).cpu.nmiPending = s.cpu.nmiPending := by
  obtain ⟨r, c, e⟩ := hostCalls_eq s
  rw [e]

@[simp] theorem hostCalls_servicing (s : State) : (hostCalls s).cpu.servicing = s.cpu.servicing := by
  obtain ⟨r, c, e⟩ := hostCalls_eq s
  rw [e]

/-! ## The step by its agent (R320, R332) -/

/-- A completed step is the action of one agent on the state the host's calls leave, which nothing has halted (R320, R331,
log 5). -/
theorem step_cases {s t : State} (h : step s = .next t) :
    (hostCalls s).fault = none ∧
    ((∃ sl, (hostCalls s).drv.phase = .startLine sl ∧ startLine sl (hostCalls s) = .ok () t) ∨
    ((hostCalls s).drv.phase = .cpu ∧ (hostCalls s).drv.acc < (hostCalls s).cfg.cyclesPerScanline ∧
      cpuStep (hostCalls s) = .next t) ∨
    ((hostCalls s).drv.phase = .cpu ∧ (hostCalls s).cfg.cyclesPerScanline ≤ (hostCalls s).drv.acc ∧
      t = endBudget (hostCalls s)) ∨
    ((hostCalls s).drv.phase = .raster ∧ rasterStep (hostCalls s) = .ok () t)) := by
  simp only [step] at h
  generalize hostCalls s = u at h ⊢
  cases hf : u.fault with
  | some k => simp only [hf] at h; cases h
  | none =>
    refine ⟨rfl, ?_⟩
    cases hp : u.drv.phase with
    | startLine sl =>
      simp only [hf, hp, Res.toOutcome_eq_next] at h
      exact .inl ⟨sl, rfl, h⟩
    | cpu =>
      simp only [hf, hp] at h
      split at h
      · rename_i hlt; exact .inr (.inl ⟨rfl, hlt, h⟩)
      · rename_i hge; cases h; exact .inr (.inr (.inl ⟨rfl, Nat.le_of_not_lt hge, rfl⟩))
    | raster =>
      simp only [hf, hp, Res.toOutcome_eq_next] at h
      exact .inr (.inr (.inr ⟨rfl, h⟩))

/-- The raster's step renders the driver's line and moves the driver to the next one (R290, R320). -/
theorem rasterStep_eq_ok {s t : State} (h : rasterStep s = .ok () t) :
    ∃ u, FbFrame s u ∧ t = { s with fb := u.fb, drv := { s.drv with phase := .startLine (nextLine s.cfg s.drv.line) } } := by
  obtain ⟨_, u, hr, he⟩ := Res.andThen_eq_ok.mp h
  cases he
  have f := renderScanline_frame hr
  refine ⟨u, f, ?_⟩
  rw [f.1]
  rfl

/-! ## The invariant (R313, R320) -/

/-- The invariant says nothing of the CPU, of vblank or of the number of steps; of the driver's place it asks `LineOk`, and
of the pixels that each row is well formed. -/
theorem Inv.withDriver {s : State} (i : Inv s) {cpu : Cpu} {vb : Bool} {fb : PixelBuffer} {drv : Driver} {n : Nat}
    (hfb : ∀ row : Fin 240, Memory.ok fb[row] 768) (hl : LineOk (s.setDrv drv)) :
    Inv { s with cpu := cpu, ppu := { s.ppu with vblank := vb }, fb := fb, drv := drv, cpuSteps := n } := by
  have m := i.memories
  exact ⟨⟨m.ram, m.oam, m.pal, m.noAlias, m.ciram, m.chr, m.prg, hfb⟩, i.strobe, i.stall, hl, i.cfg⟩

theorem startLine_inv {sl : Nat} {s t : State} (i : Inv s) (hp : s.drv.phase = .startLine sl)
    (h : startLine sl s = .ok () t) : Inv t := by
  obtain ⟨vb, nmi, rfl⟩ := startLine_eq_ok h
  have hl := i.line
  simp only [LineOk, hp] at hl
  exact i.withDriver i.memories.fb hl.2

theorem cpuStep_inv {s t : State} (i : Inv s) (h : cpuStep s = .next t) : Inv t := by
  obtain ⟨u, n, f, rfl⟩ := cpuStep_eq_next h
  have iu := f.inv i
  exact iu.withDriver iu.memories.fb iu.line

/-- A setting R7 allows has a line to run (log 18). -/
theorem Inv.scanlines_pos {s : State} (i : Inv s) : 0 < s.cfg.scanlinesPerFrame := by
  have h := i.cfg
  simp only [Config.wf, Config.driverWf, Bool.and_eq_true, decide_eq_true_eq] at h
  exact h.2.2

theorem endBudget_inv {s : State} (i : Inv s) (hp : s.drv.phase = .cpu) : Inv (endBudget s) := by
  have hl := i.line
  simp only [LineOk, hp] at hl
  refine i.withDriver i.memories.fb ?_
  by_cases hv : s.drv.line ≤ Config.lastVisibleLine
  · simp only [LineOk, State.setDrv_drv, if_pos hv]
    exact ⟨hl, hv⟩
  · simp only [LineOk, State.setDrv_drv, if_neg hv]
    exact ⟨hl, nextLine_lt i.scanlines_pos _⟩

theorem rasterStep_inv {s t : State} (i : Inv s) (hp : s.drv.phase = .raster) (h : rasterStep s = .ok () t) :
    Inv t := by
  obtain ⟨u, f, rfl⟩ := rasterStep_eq_ok h
  have hl := i.line
  simp only [LineOk, hp] at hl
  exact i.withDriver (f.2 i.memories.fb) ⟨hl.1, nextLine_lt i.scanlines_pos _⟩

/-- Settles O8, by the host's calls and each agent's action keeping the invariant. -/
theorem stepKeepsInvariant : Obligations.StepKeepsInvariant := by
  unfold Obligations.StepKeepsInvariant
  intro s t i h
  have iu := hostCalls_inv i
  obtain ⟨-, ⟨sl, hp, hs⟩ | ⟨-, -, hs⟩ | ⟨hp, -, rfl⟩ | ⟨hp, hs⟩⟩ := step_cases h
  · exact startLine_inv iu hp hs
  · exact cpuStep_inv iu hs
  · exact endBudget_inv iu hp
  · exact rasterStep_inv iu hp hs

/-! ## Parameters, ROM and pixels -/

/-- Settles O10, by what each agent's action leaves alone. -/
theorem stepKeepsParametersAndRom : Obligations.StepKeepsParametersAndRom := by
  unfold Obligations.StepKeepsParametersAndRom
  intro s t h
  rw [← hostCalls_cfg s, ← hostCalls_cart s]
  obtain ⟨-, ⟨sl, -, hs⟩ | ⟨-, -, hs⟩ | ⟨-, -, rfl⟩ | ⟨-, hs⟩⟩ := step_cases h
  · obtain ⟨vb, nmi, rfl⟩ := startLine_eq_ok hs
    exact ⟨rfl, rfl, fun _ _ => rfl⟩
  · obtain ⟨u, n, f, rfl⟩ := cpuStep_eq_next hs
    exact ⟨f.cfg, f.prg, f.chr⟩
  · exact ⟨rfl, rfl, fun _ _ => rfl⟩
  · obtain ⟨u, -, rfl⟩ := rasterStep_eq_ok hs
    exact ⟨rfl, rfl, fun _ _ => rfl⟩

/-- Settles O11, by what each agent's action leaves alone. -/
theorem onlyRasterDraws : Obligations.OnlyRasterDraws := by
  unfold Obligations.OnlyRasterDraws
  intro s t h
  rw [← hostCalls_fb s]
  obtain ⟨-, ⟨sl, hp, hs⟩ | ⟨hp, -, hs⟩ | ⟨hp, -, rfl⟩ | ⟨hp, hs⟩⟩ := step_cases h
  · obtain ⟨vb, nmi, rfl⟩ := startLine_eq_ok hs
    exact ⟨fun _ => rfl, fun hr => by cases hp.symm.trans hr⟩
  · obtain ⟨u, n, f, rfl⟩ := cpuStep_eq_next hs
    exact ⟨fun _ => f.fb, fun hr => by cases hp.symm.trans hr⟩
  · exact ⟨fun _ => rfl, fun hr => by cases hp.symm.trans hr⟩
  · obtain ⟨u, -, rfl⟩ := rasterStep_eq_ok hs
    exact ⟨fun hr => absurd hp hr, fun _ => rfl⟩

end Sys2Proof.Machine

/-! SUPPORT. What an entry reads from its vector, the latches through a CPU step, and where an NMI and a handler come
from (O12). -/

namespace Sys2Proof.Machine

/-! ## The vectors (R71, R75) -/

/-- What stands in the cartridge's window is read from the cartridge and its setting alone (R67, R84). -/
theorem plainRead_cart_congr {s t : State} {a : Word} (ha : 0x401F < a.toNat) (hk : t.cart = s.cart)
    (hc : t.cfg = s.cfg) : plainRead t a = plainRead s a := by
  simp only [plainRead, if_neg (show ¬ a.toNat ≤ 0x1FFF by omega), if_neg (show ¬ a.toNat ≤ 0x401F by omega), hk, hc]

/-- A read over the cartridge's window that answers is the byte standing there, and changes nothing (R67, R74). -/
theorem memRead_cart_eq_ok {s t : State} {a : Word} {b : Byte} (ha : 0x401F < a.toNat) (h : memRead a s = .ok b t) :
    plainRead s a = some b ∧ t = s := by
  cases hp : plainRead s a with
  | none => cases (memRead_silent ha hp).symm.trans h
  | some c => cases (memRead_plain hp).symm.trans h; exact ⟨rfl, rfl⟩

/-- A vector that answers is the word standing in the cartridge, and reading it changes nothing (R71, R75). -/
theorem read16_cart_eq_ok {s t : State} {v pc : Word} (hv : 0x401F < v.toNat) (hv' : 0x401F < (v + 1).toNat)
    (h : read16 v s = .ok pc t) :
    t = s ∧ ∃ lo hi, plainRead s v = some lo ∧ plainRead s (v + 1) = some hi ∧ pc = hi ++ lo := by
  obtain ⟨lo, u, hl, h'⟩ := Res.andThen_eq_ok.mp h
  obtain ⟨pl, rfl⟩ := memRead_cart_eq_ok hv hl
  obtain ⟨hi, w, hh, he⟩ := Res.andThen_eq_ok.mp h'
  obtain ⟨ph, rfl⟩ := memRead_cart_eq_ok hv' hh
  cases he
  exact ⟨rfl, lo, hi, pl, ph, rfl⟩

/-- The state of an entry before it reads its vector: the return address and the status byte pushed, and I set (R213,
R334). -/
def State.entering (s : State) (ret : Word) (b : Bool) : State :=
  ((s.setRam (((s.ram.write (0x100 + s.cpu.sp.toNat) (hiByte ret)).write (0x100 + (s.cpu.sp - 1).toNat)
    (loByte ret)).write (0x100 + (s.cpu.sp - 2).toNat) (s.cpu.flags.pack b))).setSp (s.cpu.sp - 3)).setI true

theorem sub_one_sub_one (b : Byte) : b - 1 - 1 = b - 2 := by bv_omega

theorem sub_two_sub_one (b : Byte) : b - 2 - 1 = b - 3 := by bv_omega

/-- An entry that completes pushes, sets I and takes the PC from its vector (R213, R334). -/
theorem enterVector_eq_ok {s t : State} {ret v : Word} {b : Bool} (hv : 0x401F < v.toNat)
    (hv' : 0x401F < (v + 1).toNat) (h : enterVector ret b v s = .ok () t) :
    ∃ lo hi, plainRead s v = some lo ∧ plainRead s (v + 1) = some hi ∧ t = (s.entering ret b).setPc (hi ++ lo) := by
  simp only [enterVector_eq, ramIndex_stackAddress, sub_one_sub_one, sub_two_sub_one] at h
  obtain ⟨pc, u, hr, he⟩ := Res.andThen_eq_ok.mp h
  cases he
  obtain ⟨rfl, lo, hi, hl, hh, rfl⟩ := read16_cart_eq_ok hv hv' hr
  have keeps : ∀ {a : Word}, 0x401F < a.toNat → plainRead (s.entering ret b) a = plainRead s a :=
    fun ha => plainRead_cart_congr ha rfl rfl
  exact ⟨lo, hi, (keeps hv).symm.trans hl, (keeps hv').symm.trans hh, rfl⟩

/-! ## The latches through the CPU's step (R30, R332) -/

theorem LatchFrame.setPc (s : State) (pc : Word) : LatchFrame s (s.setPc pc) := ⟨rfl, rfl, id⟩

theorem fetchByte_latches {s t : State} {b : Byte} (h : fetchByte s = .ok b t) : LatchFrame s t := by
  obtain ⟨_, u, hr, he⟩ := Res.andThen_eq_ok.mp h
  cases he
  exact (LatchFrame.of_cpu (memRead_frame hr).2.1).trans (LatchFrame.setPc u _)

theorem fetchPair_latches {s t : State} {p : Byte × Byte} (h : fetchPair s = .ok p t) : LatchFrame s t := by
  obtain ⟨_, u, hl, h'⟩ := Res.andThen_eq_ok.mp h
  obtain ⟨_, v, hh, he⟩ := Res.andThen_eq_ok.mp h'
  cases he
  exact ((LatchFrame.of_cpu (memRead_frame hl).2.1).trans (LatchFrame.of_cpu (memRead_frame hh).2.1)).trans
    (LatchFrame.setPc v _)

theorem fetchOperand_latches {op : Byte} {s t : State} {i : Instr} (h : fetchOperand op s = .ok i t) :
    LatchFrame s t := by
  simp only [fetchOperand] at h
  split at h
  · cases h; exact LatchFrame.refl s
  · obtain ⟨_, u, hb, he⟩ := Res.andThen_eq_ok.mp h
    cases he; exact fetchByte_latches hb
  · obtain ⟨_, u, hb, he⟩ := Res.andThen_eq_ok.mp h
    cases he; exact fetchPair_latches hb

theorem fetchInstr_latches {s t : State} {i : Instr} (h : fetchInstr s = .ok i t) : LatchFrame s t := by
  obtain ⟨op, u, hb, ho⟩ := Res.andThen_eq_ok.mp h
  split at ho
  · exact (fetchByte_latches hb).trans (fetchOperand_latches ho)
  · cases ho

theorem instructionStep_latches {s t : State} (h : instructionStep s = .next t) : LatchFrame s t := by
  simp only [instructionStep] at h
  cases hf : fetchInstr s with
  | raise k u => rw [hf] at h; cases h
  | ok i u =>
    rw [hf] at h
    obtain ⟨v, he, rfl⟩ := report_eq_next.mp h
    exact ((fetchInstr_latches hf).trans (exec_latches he)).trans (LatchFrame.of_cpu rfl)

/-- A completed CPU step is a reset entry, an NMI entry, an IRQ entry or an instruction, in that priority, with its cycles
charged (R332, R337, R373). -/
theorem cpuStep_cases {s t : State} (h : cpuStep s = .next t) :
    (∃ u, s.cpu.resetPending = true ∧ resetEntry s.beginStep = .ok () u ∧ t = u.charge Config.interruptCost) ∨
    (s.cpu.resetPending = false ∧
      ((∃ u, takesNmi s = true ∧ nmiEntry s.beginStep = .ok () u ∧ t = u.charge Config.interruptCost) ∨
      (takesNmi s = false ∧
        ((∃ u, takesIrq s = true ∧ irqEntry s.beginStep = .ok () u ∧ t = u.charge Config.interruptCost) ∨
        (takesIrq s = false ∧ instructionStep s.beginStep = .next t))))) := by
  have entry : ∀ {r : Res Unit}, report (fun _ => Config.interruptCost) r.toOutcome = .next t →
      ∃ u, r = .ok () u ∧ t = u.charge Config.interruptCost := by
    intro r hr
    obtain ⟨u, hu, ht⟩ := report_eq_next.mp hr
    exact ⟨u, Res.toOutcome_eq_next.mp hu, ht⟩
  simp only [cpuStep] at h
  split at h
  · rename_i hr
    obtain ⟨u, hu⟩ := entry h
    exact .inl ⟨u, hr, hu⟩
  · rename_i hr
    refine .inr ⟨eq_false_of_ne_true hr, ?_⟩
    split at h
    · rename_i hn
      obtain ⟨u, hu⟩ := entry h
      exact .inl ⟨u, hn, hu⟩
    · rename_i hn
      refine .inr ⟨eq_false_of_ne_true hn, ?_⟩
      split at h
      · rename_i hi
        obtain ⟨u, hu⟩ := entry h
        exact .inl ⟨u, hi, hu⟩
      · rename_i hi
        exact .inr ⟨eq_false_of_ne_true hi, h⟩

/-- A reset entry drops a pending NMI and a handler in progress (R333). -/
theorem resetEntry_latches {s t : State} (h : resetEntry s = .ok () t) :
    t.cpu.nmiPending = false ∧ t.cpu.servicing = false := by
  obtain ⟨pc, u, -, he⟩ := Res.andThen_eq_ok.mp h
  cases he
  exact ⟨rfl, rfl⟩

/-- An NMI entry consumes the pending NMI and takes the PC from its vector (R75, R334). -/
theorem nmiEntry_eq_ok {s t : State} (h : nmiEntry s = .ok () t) :
    t.cpu.nmiPending = false ∧ ∃ lo hi, plainRead s 0xFFFA = some lo ∧ plainRead s 0xFFFB = some hi ∧
      t.cpu.pc = hi ++ lo := by
  obtain ⟨_, u, hv, he⟩ := Res.andThen_eq_ok.mp h
  cases he
  obtain ⟨lo, hi, hl, hh, rfl⟩ := enterVector_eq_ok (v := nmiVector) (by decide) (by decide) hv
  exact ⟨rfl, lo, hi, hl, hh, rfl⟩

/-- An IRQ entry completes only as a serviced one, which takes the PC from its vector (R75, R335). -/
theorem irqEntry_eq_ok {s t : State} (h : irqEntry s = .ok () t) :
    s.cfg.irqEntry = .service ∧ t.cpu.nmiPending = s.cpu.nmiPending ∧
      ∃ lo hi, plainRead s 0xFFFE = some lo ∧ plainRead s 0xFFFF = some hi ∧ t.cpu.pc = hi ++ lo := by
  simp only [irqEntry] at h
  cases hc : s.cfg.irqEntry with
  | fatal => rw [hc] at h; cases h
  | service =>
    rw [hc] at h
    obtain ⟨_, u, hv, he⟩ := Res.andThen_eq_ok.mp h
    cases he
    obtain ⟨lo, hi, hl, hh, rfl⟩ := enterVector_eq_ok (v := irqVector) (by decide) (by decide) hv
    exact ⟨rfl, rfl, lo, hi, hl, hh, rfl⟩

/-! ## NMI requests and handlers (R275, R332-R336) -/

/-- The start of a scanline makes an NMI pending only at line 241 with bit 7 of Control set (R275, R320). -/
theorem startLine_requests {sl : Nat} {s t : State} (h : startLine sl s = .ok () t) (ht : t.cpu.nmiPending = true)
    (hs : s.cpu.nmiPending = false) : sl = 241 ∧ s.ppu.ctrl.getLsbD 7 = true := by
  obtain ⟨_, u, hv, he⟩ := Res.andThen_eq_ok.mp h
  have hu : u.cpu.nmiPending = true := by
    rw [← ht]
    cases he
    dsimp only
    split <;> rfl
  by_cases hl : sl = Config.vblankSetLine
  · rw [if_pos hl] at hv
    refine ⟨hl, ?_⟩
    simp only [vblankStart] at hv
    split at hv
    · rename_i he; exact he
    · cases hv; cases hs.symm.trans hu
  · rw [if_neg hl] at hv
    cases hv
    cases hs.symm.trans hu

/-- No CPU step makes an NMI pending (R275). -/
theorem cpuStep_nmiPending {s t : State} (h : cpuStep s = .next t) (ht : t.cpu.nmiPending = true) :
    s.cpu.nmiPending = true := by
  obtain ⟨u, -, hu, rfl⟩ | ⟨-, ⟨u, -, hu, rfl⟩ | ⟨-, ⟨u, -, hu, rfl⟩ | ⟨-, hi⟩⟩⟩ := cpuStep_cases h
  · cases (resetEntry_latches hu).1.symm.trans ht
  · cases (nmiEntry_eq_ok hu).1.symm.trans ht
  · exact (irqEntry_eq_ok hu).2.1.symm.trans ht
  · exact (instructionStep_latches hi).nmi.symm.trans ht

/-- `pc` is where a handler that starts from `s` begins: an NMI's, or that of an IRQ that is taken and serviced (R75, R332,
R334, R335). -/
def HandlerAt (s : State) (pc : Word) : Prop :=
  ∃ (vector : Word) (lo hi : Byte),
    ((s.cpu.nmiPending = true ∧ vector = 0xFFFA) ∨
      (s.cpu.nmiPending = false ∧ irqLineAt s.cfg.irqLine s.cpuSteps = true ∧ s.cpu.flags.i = false ∧
        s.cfg.irqEntry = .service ∧ vector = 0xFFFE)) ∧
    plainRead s vector = some lo ∧ plainRead s (vector + 1) = some hi ∧ pc = hi ++ lo

/-- An NMI that is not taken, with no handler in progress, is not pending (R332). -/
theorem nmiPending_of_not_takesNmi {s : State} (h : takesNmi s = false) (hs : s.cpu.servicing = false) :
    s.cpu.nmiPending = false := by
  simpa [takesNmi, hs] using h

theorem takesIrq_eq_true {s : State} (h : takesIrq s = true) :
    irqLineAt s.cfg.irqLine s.cpuSteps = true ∧ s.cpu.flags.i = false := by
  simp only [takesIrq, Bool.and_eq_true, Bool.not_eq_true'] at h
  exact h.1

/-- A CPU step after which a handler is in progress that was not before it is an NMI entry or a serviced IRQ entry, with no
reset pending (R332-R335). -/
theorem cpuStep_servicing {s t : State} (h : cpuStep s = .next t) (ht : t.cpu.servicing = true)
    (hs : s.cpu.servicing = false) : s.cpu.resetPending = false ∧ HandlerAt s t.cpu.pc := by
  obtain ⟨u, -, hu, rfl⟩ | ⟨hr, ⟨u, hn, hu, rfl⟩ | ⟨hn, ⟨u, hi, hu, rfl⟩ | ⟨-, hi⟩⟩⟩ := cpuStep_cases h
  · cases (resetEntry_latches hu).2.symm.trans ht
  · obtain ⟨-, lo, hi, hl, hh, hpc⟩ := nmiEntry_eq_ok hu
    have hp : s.cpu.nmiPending = true := (Bool.and_eq_true_iff.mp hn).1
    exact ⟨hr, 0xFFFA, lo, hi, .inl ⟨hp, rfl⟩, hl, hh, hpc⟩
  · obtain ⟨hc, -, lo, hi', hl, hh, hpc⟩ := irqEntry_eq_ok hu
    obtain ⟨hline, hmask⟩ := takesIrq_eq_true hi
    exact ⟨hr, 0xFFFE, lo, hi', .inr ⟨nmiPending_of_not_takesNmi hn hs, hline, hmask, hc, rfl⟩, hl, hh, hpc⟩
  · cases hs.symm.trans ((instructionStep_latches hi).servicing ht)

/-- The host's calls touch nothing that says where a handler begins (R324). -/
theorem handlerAt_hostCalls {s : State} {pc : Word} (h : HandlerAt (hostCalls s) pc) : HandlerAt s pc := by
  obtain ⟨r, c, e⟩ := hostCalls_eq s
  rw [e] at h
  exact h

/-- Settles O12, by what each agent's action does to the latches. -/
theorem nmiComesFromTheDriver : Obligations.NmiComesFromTheDriver := by
  unfold Obligations.NmiComesFromTheDriver
  intro s t h
  rw [← hostCalls_nmiPending s, ← hostCalls_servicing s, ← hostCalls_ppu s]
  obtain ⟨-, ⟨sl, hp, hs⟩ | ⟨hp, -, hs⟩ | ⟨-, -, rfl⟩ | ⟨-, hs⟩⟩ := step_cases h
  · refine ⟨fun ht hn => ?_, fun ht hn => ?_⟩
    · obtain ⟨rfl, hc⟩ := startLine_requests hs ht hn
      exact ⟨hp, hc⟩
    · obtain ⟨vb, nmi, rfl⟩ := startLine_eq_ok hs
      cases hn.symm.trans ht
  · refine ⟨fun ht hn => ?_, fun ht hn => ?_⟩
    · cases hn.symm.trans (cpuStep_nmiPending hs ht)
    · obtain ⟨hr, hh⟩ := cpuStep_servicing hs ht hn
      rw [hostCalls_nmiPending]
      exact ⟨hp, hr, handlerAt_hostCalls hh⟩
  · exact ⟨fun ht hn => absurd (hn.symm.trans ht) Bool.false_ne_true,
      fun ht hn => absurd (hn.symm.trans ht) Bool.false_ne_true⟩
  · obtain ⟨u, -, rfl⟩ := rasterStep_eq_ok hs
    exact ⟨fun ht hn => absurd (hn.symm.trans ht) Bool.false_ne_true,
      fun ht hn => absurd (hn.symm.trans ht) Bool.false_ne_true⟩

end Sys2Proof.Machine

/-! SUPPORT. RAM and the stack read back (O23, O54), and the frame of the instructions that use the stack (O58). -/

namespace Sys2Proof.Machine

/-! ## RAM and the stack (R28, R29, R62) -/

/-- Settles O23, by the RAM region of the two bus accesses and reading a memory back after a write. -/
theorem ramReadsBackAtEveryMirror : Obligations.RamReadsBackAtEveryMirror := by
  unfold Obligations.RamReadsBackAtEveryMirror
  intro a b v s ha hb
  have hw := memWrite_ram ha v s
  refine ⟨hw, fun t ht => ?_⟩
  cases hw.symm.trans ht
  rw [memRead_ram hb]
  simp only [ramByte, State.setRam_ram, Memory.read_write, ramIndex]

/-- The decrement of a push wraps within the 8 bits of S (R28). -/
theorem sub_one_eq_wrap (b : Byte) : (b - 1 : Byte) = if b = 0 then 0xFF else b - 1 := by
  split
  · subst b; rfl
  · rfl

/-- The increment of a pull wraps within the 8 bits of S (R29). -/
theorem add_one_eq_wrap (b : Byte) : (b + 1 : Byte) = if b = 0xFF then 0 else b + 1 := by
  split
  · subst b; rfl
  · rfl

/-- The four mirrors of a stack byte lie in RAM and reach it (R21, R62). -/
theorem memRead_stackMirror (sp : Byte) {k : Nat} (hk : k < 4) (s : State) :
    memRead (BitVec.ofNat 16 (k * 0x800 + 0x100 + sp.toNat)) s = .ok (s.ram.read (0x100 + sp.toNat)) s := by
  have := sp.isLt
  have ha : (BitVec.ofNat 16 (k * 0x800 + 0x100 + sp.toNat)).toNat = k * 0x800 + 0x100 + sp.toNat := by
    rw [BitVec.toNat_ofNat]
    omega
  have hi : (k * 0x800 + 0x100 + sp.toNat) % 0x800 = 0x100 + sp.toNat := by omega
  rw [memRead_ram (by omega), ramByte, ramIndex, ha, hi]

/-- Settles O54, by the stack operations as equations. -/
theorem pushAndPull : Obligations.PushAndPull := by
  unfold Obligations.PushAndPull
  intro v s
  have hpush := push_eq v s
  rw [ramIndex_stackAddress] at hpush
  refine ⟨?_, fun t k hk ht => ?_, fun b t ht hr => ?_⟩
  · rw [hpush, ← sub_one_eq_wrap]
    rfl
  · cases hpush.symm.trans ht
    rw [memRead_stackMirror _ hk]
    simp
  · rw [← add_one_eq_wrap] at ht
    subst ht
    have hm := memRead_stackMirror (s.cpu.sp + 1) (k := 0) (by decide) (s.setSp (s.cpu.sp + 1))
    rw [pull_eq, ramByte, ramIndex_stackAddress, ← hr]
    exact hm.symm

/-! ## The instructions that use the stack (R210-R213, R220-R223) -/

/-- The operand of an instruction that uses the stack resolves without a read, and crosses no page (R120). -/
theorem resolve_stackUser {i : Instr} (hm : i.mnemonic ∈ stackUsers) (s : State) :
    ∃ r, resolve i.operand s = .ok r (s.setCrossed false) := by
  have hd : decide (i.mnemonic ∈ stackUsers) = true := decide_eq_true hm
  clear hm
  cases i
  case brk | php | plp | rti | pha | rts | pla | jsrAbs => exact ⟨_, rfl⟩
  all_goals exact absurd hd Bool.false_ne_true

/-- An instruction that uses the stack is its action on a resolved operand, in the state with no page crossed (R332). -/
theorem exec_stackUser {i : Instr} {s t : State} (hm : i.mnemonic ∈ stackUsers) (h : exec i s = .next t) :
    ∃ r, actionOf i.mnemonic r (s.setCrossed false) = .ok () t := by
  have hu : i.mnemonic ≠ .undefined := fun e => absurd (e ▸ hm) (by decide)
  obtain ⟨r, hr⟩ := resolve_stackUser hm s
  rw [exec_eq i s hu, perform, hr, Res.andThen_ok, Res.toOutcome_eq_next] at h
  exact ⟨r, h⟩

/-- JSR pushes its return address and moves the PC (R210). -/
theorem jsr_eq_ok {r : Resolved} {s t : State} (h : jsr r s = .ok () t) :
    ∃ pc, t = ((s.setRam ((s.ram.write (0x100 + s.cpu.sp.toNat) (hiByte (s.cpu.pc - 1))).write
      (0x100 + (s.cpu.sp - 1).toNat) (loByte (s.cpu.pc - 1)))).setSp (s.cpu.sp - 2)).setPc pc := by
  simp only [jsr, pushWord_eq, ramIndex_stackAddress, sub_one_sub_one, Res.andThen_ok] at h
  cases r <;> cases h
  case addr a => exact ⟨a, rfl⟩
  all_goals exact ⟨s.cpu.pc, rfl⟩

/-- BRK enters the IRQ vector as an interrupt does, with the break bit set (R213). -/
theorem brk_eq_ok (r : Resolved) {s t : State} (h : brk r s = .ok () t) :
    ∃ pc, t = (s.entering (s.cpu.pc + 1) true).setPc pc := by
  obtain ⟨lo, hi, -, -, rfl⟩ := enterVector_eq_ok (v := irqVector) (by decide) (by decide) h
  exact ⟨_, rfl⟩

theorem add_one_add_one (b : Byte) : b + 1 + 1 = b + 2 := by bv_omega

theorem add_two_add_one (b : Byte) : b + 2 + 1 = b + 3 := by bv_omega

/-- Settles O58, by the next state of each of the eight. -/
theorem frameOfStackInstructions : Obligations.FrameOfStackInstructions := by
  unfold Obligations.FrameOfStackInstructions
  intro i s t hm h
  obtain ⟨r, ha⟩ := exec_stackUser hm h
  generalize i.mnemonic = m at hm ha ⊢
  cases m
  case pha | php =>
    simp only [actionOf, pha, php, push_eq, ramIndex_stackAddress] at ha
    cases ha
    exact ⟨rfl, fun k h₁ _ _ => Memory.read_write_other _ _ (h₁ (by decide)), BitVec.sub_eq_add_neg _ _, by simp⟩
  case jsr =>
    obtain ⟨pc, rfl⟩ := jsr_eq_ok ha
    exact ⟨rfl, fun k h₁ h₂ _ => (Memory.read_write_other _ _ (h₂ (by decide))).trans
      (Memory.read_write_other _ _ (h₁ (by decide))), BitVec.sub_eq_add_neg _ _, by simp⟩
  case brk =>
    obtain ⟨pc, rfl⟩ := brk_eq_ok r ha
    exact ⟨rfl, fun k h₁ h₂ h₃ => ((Memory.read_write_other _ _ (h₃ (by decide))).trans
      (Memory.read_write_other _ _ (h₂ (by decide)))).trans (Memory.read_write_other _ _ (h₁ (by decide))),
      BitVec.sub_eq_add_neg _ _, by simp [State.entering]⟩
  case pla =>
    simp only [actionOf, pla, pull_eq, Res.andThen_ok] at ha
    cases ha
    exact ⟨rfl, fun _ _ _ _ => rfl, rfl, by simp [Flags.nz]⟩
  case plp =>
    simp only [actionOf, plp, pull_eq, Res.andThen_ok] at ha
    cases ha
    exact ⟨rfl, fun _ _ _ _ => rfl, rfl, by simp⟩
  case rts =>
    simp only [actionOf, rts, pullWord_eq, add_one_add_one, Res.andThen_ok] at ha
    cases ha
    exact ⟨rfl, fun _ _ _ _ => rfl, rfl, by simp⟩
  case rti =>
    simp only [actionOf, rti, returnFromInterrupt_eq, add_one_add_one, add_two_add_one] at ha
    cases ha
    exact ⟨rfl, fun _ _ _ _ => rfl, rfl, by simp⟩
  all_goals exact absurd hm (by decide)

end Sys2Proof.Machine

/-! SUPPORT. The regions of the CPU bus that need no device (O24, O27), and that each access which is `readable` or
`writable` answers, an OAM DMA with all its reads (O21, O22). -/

namespace Sys2Proof.Machine

/-! ## The inert addresses and the default cartridge's window (R64, R65, R85, R88) -/

theorem inertApu_iff {a : Word} :
    inertApu a = true ↔ (0x4000 ≤ a.toNat ∧ a.toNat ≤ 0x4013) ∨ a.toNat = 0x4015 ∨ a.toNat = 0x4017 := by
  rw [inertApu, decide_eq_true_eq]

theorem memRead_inert {a : Word} (h : inertApu a = true) (s : State) : memRead a s = .ok 0 s := by
  have := inertApu_iff.mp h
  rw [memRead, if_neg (by omega), if_neg (by omega), if_pos h]

theorem memWrite_inert {a : Word} (h : inertApu a = true) (v : Byte) (s : State) : memWrite a v s = .ok () s := by
  have := inertApu_iff.mp h
  rw [memWrite, if_neg (by omega), if_neg (by omega), if_pos h]

theorem memRead_dmaTrigger (s : State) : memRead 0x4014 s = .ok 0 s := rfl

theorem memRead_controller (s : State) : memRead 0x4016 s = ctlRead s := rfl

theorem memWrite_controller (v : Byte) (s : State) : memWrite 0x4016 v s = ctlWrite v s := rfl

/-- Settles O24, by the regions of the two bus accesses. -/
theorem inertAndUnmappedAddresses : Obligations.InertAndUnmappedAddresses := by
  unfold Obligations.InertAndUnmappedAddresses
  refine fun a v s => ⟨fun h => ?_, memRead_dmaTrigger s, fun h h' => ⟨memRead_unmapped h h' s, memWrite_unmapped h h' v s⟩⟩
  have hi : inertApu a = true := by
    rw [inertApu_iff]
    rcases h with h | rfl | rfl
    · exact .inl h
    · decide
    · decide
  exact ⟨memRead_inert hi s, memWrite_inert hi v s⟩

theorem prgSize_eq (cfg : Config) : prgSize cfg = if cfg.prgBanks = .one then 0x4000 else 0x8000 := by
  cases h : cfg.prgBanks <;> simp [prgSize, h]

theorem memRead_window {a : Word} {s : State} (hc : s.cfg.cart = .nrom) (h : 0x8000 ≤ a.toNat) :
    memRead a s = .ok (s.cart.prg.read (prgOffset s.cfg a)) s := by
  rw [memRead_cart (by omega), cartCpuRead, hc]
  exact if_pos h

theorem memWrite_window {a : Word} {v : Byte} {s : State} (hc : s.cfg.cart = .nrom) (h : 0x8000 ≤ a.toNat) :
    memWrite a v s = if s.cfg.prgWrite = .fatal then .raise (.unmappedCpuAddress a .write) s else .ok () s := by
  rw [memWrite_cart (by omega), cartCpuWrite, hc]
  cases hw : s.cfg.prgWrite <;> simp [h]

theorem memRead_belowWindow {a : Word} {s : State} (hc : s.cfg.cart = .nrom) (h : 0x4020 ≤ a.toNat)
    (h' : a.toNat < 0x8000) : memRead a s = .raise (.unmappedCpuAddress a .read) s := by
  rw [memRead_cart h, cartCpuRead, hc]
  exact if_neg (by omega)

theorem memWrite_belowWindow {a : Word} {v : Byte} {s : State} (hc : s.cfg.cart = .nrom) (h : 0x4020 ≤ a.toNat)
    (h' : a.toNat < 0x8000) : memWrite a v s = .raise (.unmappedCpuAddress a .write) s := by
  rw [memWrite_cart h, cartCpuWrite, hc]
  exact if_neg (by omega)

/-- One bank fills the window twice (R85). -/
theorem prgOffset_add_bank {cfg : Config} {a : Word} (h : 0x8000 ≤ a.toNat) (h' : a.toNat < 0xC000)
    (hb : cfg.prgBanks = .one) : prgOffset cfg (a + 0x4000) = prgOffset cfg a := by
  have h4 : (0x4000 : Word).toNat = 0x4000 := rfl
  simp only [prgOffset, prgSize, hb, BitVec.toNat_add, h4]
  omega

/-- Settles O27, by the cartridge's region of the two bus accesses. -/
theorem defaultProgramWindow : Obligations.DefaultProgramWindow := by
  unfold Obligations.DefaultProgramWindow
  refine fun a v s hc => ⟨fun h => ⟨?_, memWrite_window hc h⟩, fun h h' hb b => ?_, fun h h' =>
    ⟨memRead_belowWindow hc h h', memWrite_belowWindow hc h h'⟩⟩
  · rw [memRead_window hc h, prgOffset, prgSize_eq]
  · have h4 : (0x4000 : Word).toNat = 0x4000 := rfl
    have hu : 0x8000 ≤ (a + 0x4000).toNat := by rw [BitVec.toNat_add, h4]; omega
    rw [memRead_window hc h, memRead_window hc hu, prgOffset_add_bank h h' hb]

/-! ## Readable accesses answer (R61, R69) -/

theorem externalRead_of_isSome {o : Option Byte} (h : o.isSome = true) (k : FaultKind) (s : State) :
    ∃ b, externalRead o k s = .ok b s := by
  obtain ⟨b, rfl⟩ := Option.isSome_iff_exists.mp h
  exact ⟨b, rfl⟩

theorem cartChrRead_of_readable {a : Word} {s : State} (h : chrReadable s a = true) :
    ∃ b, cartChrRead a s = .ok b s := by
  simp only [cartChrRead]
  cases hc : s.cfg.cart <;> simp only [chrReadable, hc] at h ⊢
  · exact ⟨_, rfl⟩
  · exact externalRead_of_isSome h _ s

theorem cartNtRead_of_readable {a : Word} {s : State} (h : ntReadable s a = true) : ∃ b, cartNtRead a s = .ok b s := by
  simp only [cartNtRead]
  cases hc : s.cfg.cart <;> simp only [ntReadable, hc] at h ⊢
  · exact ⟨_, rfl⟩
  · exact externalRead_of_isSome h _ s

theorem ppuReadLow_of_readable {a : Word} {s : State} (h : ppuReadable s a = true) : ∃ b, ppuReadLow a s = .ok b s := by
  simp only [ppuReadable] at h
  simp only [ppuReadLow]
  split at h
  · rw [if_pos (by assumption)]
    exact cartChrRead_of_readable h
  · rw [if_neg (by assumption)]
    split at h
    · rw [if_pos (by assumption)]
      exact cartNtRead_of_readable h
    · rw [if_neg (by assumption)]
      exact ⟨_, rfl⟩

theorem not_high_of_ppuAddressed {s : State} {p : Ppu} (h : ppuAddressed s p.v = true) :
    ¬ (0x4000 ≤ p.busAddress.toNat ∧ s.cfg.ppuAddrHigh = .fatal) := by
  have hv : p.busAddress.toNat = p.v.toNat := by
    have := p.v.isLt
    simp only [Ppu.busAddress, BitVec.toNat_setWidth]
    omega
  simp only [ppuAddressed, Bool.or_eq_true, beq_iff_eq, decide_eq_true_eq] at h
  rintro ⟨hh, hf⟩
  rcases h with h | h
  · rw [hf] at h; cases h
  · omega

/-- A Data read whose bus reads answer completes (R271). -/
theorem ppuDataRead_of_readable {s : State} (h : dataReadable s s.ppu.v = true) : ∃ b t, ppuDataRead s = .ok b t := by
  simp only [dataReadable, Bool.and_eq_true, Bool.or_eq_true, decide_eq_true_eq, beq_iff_eq] at h
  obtain ⟨ha, hr, hu⟩ := h
  obtain ⟨r, hr⟩ := ppuReadLow_of_readable hr
  have hf : ∃ b t, ppuDataFetch (dataAddress s.ppu.v) s = .ok b t := by
    rw [ppuDataFetch]
    split
    · rename_i hp
      rw [ppuRead_low (dataAddress_toNat_lt _), hr, Res.andThen_ok]
      cases hb : s.cfg.palReadBuffer
      · exact ⟨_, _, rfl⟩
      · have hu : ppuReadable s (dataAddress s.ppu.v - 0x1000) = true := by
          rcases hu with (hu | hu) | hu
          · omega
          · rw [hb] at hu; cases hu
          · exact hu
        obtain ⟨b, hb⟩ := ppuReadLow_of_readable hu
        dsimp only
        rw [ppuRead_low (dataAddress_sub_toNat_lt hp), hb]
        exact ⟨_, _, rfl⟩
    · rw [ppuRead_low (dataAddress_toNat_lt _), hr]
      exact ⟨_, _, rfl⟩
  obtain ⟨b, t, hf⟩ := hf
  rw [ppuDataRead, if_neg (not_high_of_ppuAddressed ha)]
  change ∃ b' t', (ppuDataFetch (dataAddress s.ppu.v) s).andThen _ = .ok b' t'
  rw [hf]
  exact ⟨_, _, rfl⟩

theorem ppuRegRead_of_readable {r : PpuReg} {s : State} (h : r = .data → dataReadable s s.ppu.v = true) :
    ∃ b t, ppuRegRead r s = .ok b t := by
  cases r
  case data => exact ppuDataRead_of_readable (h rfl)
  all_goals exact ⟨_, _, rfl⟩

theorem cartCpuRead_of_readable {a : Word} {s : State} (h : cartReadable s a = true) : ∃ b, cartCpuRead a s = .ok b s := by
  simp only [cartCpuRead]
  cases hc : s.cfg.cart <;> simp only [cartReadable, hc] at h ⊢
  · exact ⟨_, if_pos (of_decide_eq_true h)⟩
  · exact externalRead_of_isSome h _ s

/-- What lies in the APU/IO range below 0x4018 and is not the OAM DMA trigger or the controller is inert (R61, R64). -/
theorem inertApu_of_io {a : Word} (h : 0x4000 ≤ a.toNat) (h' : a.toNat ≤ 0x4017) (hd : a ≠ 0x4014) (hc : a ≠ 0x4016) :
    inertApu a = true := by
  have hd : a.toNat ≠ 0x4014 := fun e => hd (BitVec.eq_of_toNat_eq e)
  have hc : a.toNat ≠ 0x4016 := fun e => hc (BitVec.eq_of_toNat_eq e)
  rw [inertApu_iff]
  omega

/-- A `readable` address answers a CPU bus read (R61, R69). -/
theorem memRead_of_readable {a : Word} {s : State} (h : readable s a = true) : ∃ b t, memRead a s = .ok b t := by
  simp only [readable] at h
  split at h
  · exact ⟨_, _, memRead_ram (by assumption) s⟩
  · split at h
    · rw [memRead_ppu (by omega) (by assumption)]
      exact ppuRegRead_of_readable fun e => by rwa [if_pos (ppuReg_eq_data.mp e)] at h
    · split at h
      · by_cases hd : a = 0x4014
        · subst hd
          exact ⟨_, _, memRead_dmaTrigger s⟩
        · by_cases hc : a = 0x4016
          · subst hc
            exact ⟨_, _, memRead_controller s⟩
          · exact ⟨_, _, memRead_inert (inertApu_of_io (by omega) (by assumption) hd hc) s⟩
      · split at h
        · cases h
        · rw [memRead_cart (by omega)]
          exact (cartCpuRead_of_readable h).imp fun _ hb => ⟨_, hb⟩

/-- Settles O21, by the regions of the bus, each with the accesses it makes. -/
theorem readsAnswerExactlyWhenReadable : Obligations.ReadsAnswerExactlyWhenReadable := by
  unfold Obligations.ReadsAnswerExactlyWhenReadable
  exact fun a s => ⟨memRead_of_readable, fun ⟨_, _, h⟩ => readable_of_memRead h⟩

/-! ## Writable accesses are accepted (R61, R70) -/

theorem externalWrite_of_isSome {o : Option Nat} (h : o.isSome = true) (k : FaultKind) (s : State) :
    ∃ t, externalWrite o k s = .ok () t := by
  obtain ⟨e, rfl⟩ := Option.isSome_iff_exists.mp h
  exact ⟨_, rfl⟩

theorem cartChrWrite_of_writable {a : Word} {v : Byte} {s : State} (h : chrWritable s a v = true) :
    ∃ t, cartChrWrite a v s = .ok () t := by
  simp only [cartChrWrite]
  cases hc : s.cfg.cart <;> simp only [chrWritable, hc] at h ⊢
  · cases hw : s.cfg.chrWrite
    · rw [hw] at h; cases h
    · exact ⟨_, rfl⟩
    · exact ⟨_, rfl⟩
  · exact externalWrite_of_isSome h _ s

theorem cartNtWrite_of_writable {a : Word} {v : Byte} {s : State} (h : ntWritable s a v = true) :
    ∃ t, cartNtWrite a v s = .ok () t := by
  simp only [cartNtWrite]
  cases hc : s.cfg.cart <;> simp only [ntWritable, hc] at h ⊢
  · exact ⟨_, rfl⟩
  · exact externalWrite_of_isSome h _ s

theorem ppuWriteLow_of_writable {a : Word} {v : Byte} {s : State} (h : ppuWritable s a v = true) :
    ∃ t, ppuWriteLow a v s = .ok () t := by
  simp only [ppuWritable] at h
  simp only [ppuWriteLow]
  split at h
  · rw [if_pos (by assumption)]
    exact cartChrWrite_of_writable h
  · rw [if_neg (by assumption)]
    split at h
    · rw [if_pos (by assumption)]
      exact cartNtWrite_of_writable h
    · rw [if_neg (by assumption)]
      exact ⟨_, rfl⟩

theorem busAddress_eq_dataAddress {p : Ppu} (h : p.busAddress.toNat < 0x4000) : p.busAddress = dataAddress p.v := by
  apply BitVec.eq_of_toNat_eq
  change _ = (p.busAddress &&& 0x3FFF).toNat
  rw [and_3FFF_toNat]
  omega

/-- A Data access whose address is not rejected writes at the address folded onto the PPU bus (R82, R270). -/
theorem ppuWrite_busAddress {s : State} (h : ppuAddressed s s.ppu.v = true) (d : Byte) :
    ppuWrite s.ppu.busAddress d s = ppuWriteLow (dataAddress s.ppu.v) d s := by
  have hn := not_high_of_ppuAddressed h
  rw [ppuWrite]
  split
  · rename_i hh
    cases hp : s.cfg.ppuAddrHigh
    · exact absurd ⟨hh, hp⟩ hn
    · rfl
  · rename_i hl
    rw [busAddress_eq_dataAddress (Nat.lt_of_not_le hl)]

theorem ppuDataWrite_of_writable {d : Byte} {s : State} (h : dataWritable s d = true) :
    ∃ t, ppuDataWrite d s = .ok () t := by
  obtain ⟨ha, hw⟩ := Bool.and_eq_true_iff.mp h
  obtain ⟨t, hw⟩ := ppuWriteLow_of_writable hw
  rw [ppuDataWrite, ppuWrite_busAddress ha, hw]
  exact ⟨_, rfl⟩

theorem ppuRegWrite_of_writable {r : PpuReg} {d : Byte} {s : State} (h : r = .data → dataWritable s d = true) :
    ∃ t, ppuRegWrite r d s = .ok () t := by
  cases r
  case data => exact ppuDataWrite_of_writable (h rfl)
  all_goals exact ⟨_, rfl⟩

/-- Each source address of an OAM DMA from a `dmaReadable` page is readable when its turn comes (R316). -/
theorem readable_of_dmaAt {s t : State} {page : Byte} {i : Nat} (hi : i < 256) (p : DmaAt s page i t)
    (h : dmaReadable s page = true) : readable t (dmaSource page i) = true := by
  have ha := dmaSource_toNat page hi
  simp only [dmaReadable] at h
  split at h
  · rw [readable, if_pos (by omega)]
  · split at h
    · by_cases h7 : (dmaSource page i).toNat % 8 = 7
      · rw [readable_data (by omega) (by omega) h7, p.vram (by omega) (by omega), dataReadable_congr p.cfg p.cart]
        exact List.all_eq_true.mp h _ (List.mem_range.mpr (by omega))
      · rw [readable, if_neg (by omega), if_pos (by omega), if_neg h7]
    · split at h
      · cases h
      · rw [readable_cart (by omega), cartReadable_congr p.cfg p.cart]
        exact List.all_eq_true.mp h _ (List.mem_range.mpr hi)

/-- An OAM DMA from a `dmaReadable` page completes (R315, R316). -/
theorem oamDma_of_readable {page : Byte} {s : State} (h : dmaReadable s page = true) : ∃ t, oamDma page s = .ok () t := by
  have step : ∀ i < 256, ∀ t, DmaAt s page i t → ∃ u, dmaByte page i t = .ok () u ∧ DmaAt s page (i + 1) u := by
    intro i hi t p
    obtain ⟨b, u, hr⟩ := memRead_of_readable (readable_of_dmaAt hi p h)
    have hb : dmaByte page i t = .ok () (u.setPpu (u.ppu.writeOamData b)) := by rw [dmaByte, hr, Res.andThen_ok]
    exact ⟨_, hb, dmaByte_keeps hi p hb⟩
  obtain ⟨t, hl, -⟩ := forEach_range_inv step (dmaAt_zero s page)
  exact ⟨t.setDmaStall Config.dmaStall, by rw [oamDma, hl, Res.andThen_ok]⟩

theorem cartCpuWrite_of_writable {a : Word} {v : Byte} {s : State} (h : cartWritable s a v = true) :
    ∃ t, cartCpuWrite a v s = .ok () t := by
  simp only [cartCpuWrite]
  cases hc : s.cfg.cart <;> simp only [cartWritable, hc] at h ⊢
  · obtain ⟨ha, hw⟩ := Bool.and_eq_true_iff.mp h
    rw [if_pos (of_decide_eq_true ha), eq_of_beq hw]
    exact ⟨_, rfl⟩
  · exact externalWrite_of_isSome h _ s

/-- A `writable` access is accepted (R61, R70). -/
theorem memWrite_of_writable {a : Word} {v : Byte} {s : State} (h : writable s a v = true) :
    ∃ t, memWrite a v s = .ok () t := by
  simp only [writable] at h
  split at h
  · exact ⟨_, memWrite_ram (by assumption) v s⟩
  · split at h
    · rw [memWrite_ppu (by omega) (by assumption)]
      exact ppuRegWrite_of_writable fun e => by rwa [if_pos (ppuReg_eq_data.mp e)] at h
    · split at h
      · rw [memWrite_dma (by assumption)]
        exact oamDma_of_readable h
      · rename_i hd
        split at h
        · by_cases hc : a = 0x4016
          · subst hc
            exact ⟨_, memWrite_controller v s⟩
          · exact ⟨_, memWrite_inert (inertApu_of_io (by omega) (by assumption) (fun e => hd (by rw [e]; rfl)) hc) v s⟩
        · split at h
          · cases h
          · rw [memWrite_cart (by omega)]
            exact cartCpuWrite_of_writable h

/-- Settles O22, by the regions of the bus, each with the accesses it makes. -/
theorem writesAreAcceptedExactlyWhenWritable : Obligations.WritesAreAcceptedExactlyWhenWritable := by
  unfold Obligations.WritesAreAcceptedExactlyWhenWritable
  exact fun a v s => ⟨memWrite_of_writable, fun ⟨_, h⟩ => writable_of_memWrite h⟩

end Sys2Proof.Machine

/-! SUPPORT. What a CPU bus read and a CPU bus write leave alone (O25, O26), and the PPU bus read back (O28). -/

namespace Sys2Proof.Machine

/-! ## Reads (R74) -/

/-- A PPU register's index (R63). -/
def PpuReg.index : PpuReg → Nat
  | .control => 0
  | .mask => 1
  | .status => 2
  | .oamAddress => 3
  | .oamData => 4
  | .scroll => 5
  | .address => 6
  | .data => 7

theorem ppuReg_eq_iff {a : Word} {r : PpuReg} : ppuReg a = r ↔ a.toNat % 8 = r.index := by
  have h : a.toNat % 8 < 8 := Nat.mod_lt _ (by decide)
  rw [ppuReg]
  generalize a.toNat % 8 = n at h ⊢
  revert n
  cases r <;> decide

/-- Of the PPU's registers only Status and Data have a read with a side effect (R263, R267, R271, R272). -/
theorem ppuRegRead_eq_ok {r : PpuReg} {s t : State} {b : Byte} (h : ppuRegRead r s = .ok b t) :
    (r = .status ∧ t = s.setPpu s.ppu.afterStatus) ∨
    (r = .data ∧ t = s.setPpu { s.ppu with buffer := t.ppu.buffer, v := t.ppu.v }) ∨ t = s := by
  cases r
  case status => cases h; exact .inl ⟨rfl, rfl⟩
  case data =>
    obtain ⟨c, rfl⟩ := ppuDataRead_eq_ok h
    exact .inr (.inl ⟨rfl, rfl⟩)
  all_goals (cases h; exact .inr (.inr rfl))

theorem Controller.shifted_eq (c : Controller) : c.shifted = { c with shift := c.shifted.shift } := by
  rw [Controller.shifted]
  split <;> rfl

/-- Settles O25, by the regions of the bus and the PPU's registers. -/
theorem readFrame : Obligations.ReadFrame := by
  unfold Obligations.ReadFrame
  intro a b s t h
  by_cases hram : a.toNat ≤ 0x1FFF
  · cases (memRead_ram hram s).symm.trans h
    exact .inr (.inr (.inr rfl))
  by_cases hppu : a.toNat ≤ 0x3FFF
  · rw [memRead_ppu (by omega) hppu] at h
    rcases ppuRegRead_eq_ok h with ⟨hr, e⟩ | ⟨hr, e⟩ | e
    · exact .inl ⟨by omega, hppu, ppuReg_eq_iff.mp hr, e⟩
    · exact .inr (.inl ⟨by omega, hppu, ppuReg_eq_data.mp hr, e⟩)
    · exact .inr (.inr (.inr e))
  by_cases hctl : a = 0x4016
  · subst hctl
    cases h
    refine .inr (.inr (.inl ⟨rfl, ?_⟩))
    exact congrArg s.setCtl s.ctl.shifted_eq
  by_cases hdma : a = 0x4014
  · subst hdma
    cases h
    exact .inr (.inr (.inr rfl))
  by_cases hio : a.toNat ≤ 0x4017
  · cases (memRead_inert (inertApu_of_io (by omega) hio hdma hctl) s).symm.trans h
    exact .inr (.inr (.inr rfl))
  by_cases hun : a.toNat ≤ 0x401F
  · rw [memRead_unmapped (by omega) hun] at h
    cases h
  · rw [memRead_cart (by omega)] at h
    exact .inr (.inr (.inr (cartCpuRead_eq_ok h)))

/-- Outside the PPU's addresses a read leaves the PPU alone (R74). -/
theorem memRead_ppu_eq {a : Word} {s t : State} {b : Byte} (h : memRead a s = .ok b t)
    (ha : ¬ (0x2000 ≤ a.toNat ∧ a.toNat ≤ 0x3FFF)) : t.ppu = s.ppu := by
  rcases readFrame a b s t h with ⟨hl, hh, -⟩ | ⟨hl, hh, -⟩ | ⟨-, e⟩ | rfl
  · exact absurd ⟨hl, hh⟩ ha
  · exact absurd ⟨hl, hh⟩ ha
  · rw [e]
  · rfl

/-- Away from 0x4016 a read leaves the controller alone (R74). -/
theorem memRead_ctl_eq {a : Word} {s t : State} {b : Byte} (h : memRead a s = .ok b t) (ha : a ≠ 0x4016) :
    t.ctl = s.ctl := by
  rcases readFrame a b s t h with ⟨-, -, -, e⟩ | ⟨-, -, -, e⟩ | ⟨hc, -⟩ | rfl
  · rw [e]
  · rw [e]
  · exact absurd hc ha
  · rfl

/-! ## Writes on the PPU bus (R78, R83) -/

/-- What a PPU bus write at `a` leaves alone, cell by cell. -/
structure PpuWriteFrame (a : Word) (s t : State) : Prop where
  only : t = { s with ppu := { s.ppu with pal := t.ppu.pal }, cart := t.cart }
  pal : ∀ k, ¬(0x3F00 ≤ a.toNat ∧ k = palIndex a.toNat) → t.ppu.pal.read k = s.ppu.pal.read k
  external : s.cfg.cart = .nrom → t.cart.external = s.cart.external
  chr : s.cfg.cart = .nrom → ∀ k, ¬(a.toNat ≤ 0x1FFF ∧ k = a.toNat) → t.cart.chr.read k = s.cart.chr.read k
  ciram : s.cfg.cart = .nrom → ∀ k, ¬(0x2000 ≤ a.toNat ∧ a.toNat ≤ 0x3EFF ∧ k = ntCell s.cfg.mirroring a) →
    t.cart.ciram.read k = s.cart.ciram.read k

theorem PpuWriteFrame.refl (a : Word) (s : State) : PpuWriteFrame a s s :=
  ⟨rfl, fun _ _ => rfl, fun _ => rfl, fun _ _ _ => rfl, fun _ _ _ => rfl⟩

/-- A cartridge other than the default keeps what it changes to itself (R84). -/
theorem externalWrite_eq_ok {o : Option Nat} {k : FaultKind} {s t : State} (h : externalWrite o k s = .ok () t) :
    ∃ e, t = s.setCart { s.cart with external := e } := by
  cases o <;> cases h
  exact ⟨_, rfl⟩

theorem PpuWriteFrame.external_write {a : Word} {o : Option Nat} {k : FaultKind} {s t : State}
    (hc : s.cfg.cart = .external) (h : externalWrite o k s = .ok () t) : PpuWriteFrame a s t := by
  have hn : s.cfg.cart ≠ .nrom := by rw [hc]; decide
  obtain ⟨e, rfl⟩ := externalWrite_eq_ok h
  exact ⟨rfl, fun _ _ => rfl, fun n => absurd n hn, fun n => absurd n hn, fun n => absurd n hn⟩

theorem cartChrWrite_frame {a : Word} {v : Byte} {s t : State} (ha : a.toNat ≤ 0x1FFF)
    (h : cartChrWrite a v s = .ok () t) : PpuWriteFrame a s t := by
  simp only [cartChrWrite] at h
  cases hc : s.cfg.cart <;> simp only [hc] at h
  · cases hw : s.cfg.chrWrite <;> simp only [hw] at h <;> cases h
    · exact PpuWriteFrame.refl a _
    · exact ⟨rfl, fun _ _ => rfl, fun _ => rfl, fun _ k hk => Memory.read_write_other _ v fun e => hk ⟨ha, e⟩,
        fun _ _ _ => rfl⟩
  · exact PpuWriteFrame.external_write hc h

theorem cartNtWrite_frame {a : Word} {v : Byte} {s t : State} (ha : 0x2000 ≤ a.toNat) (ha' : a.toNat ≤ 0x3EFF)
    (h : cartNtWrite a v s = .ok () t) : PpuWriteFrame a s t := by
  simp only [cartNtWrite] at h
  cases hc : s.cfg.cart <;> simp only [hc] at h
  · cases h
    exact ⟨rfl, fun _ _ => rfl, fun _ => rfl, fun _ _ _ => rfl,
      fun _ k hk => Memory.read_write_other _ v fun e => hk ⟨ha, ha', e⟩⟩
  · exact PpuWriteFrame.external_write hc h

theorem ppuWriteLow_cells {a : Word} {v : Byte} {s t : State} (h : ppuWriteLow a v s = .ok () t) :
    PpuWriteFrame a s t := by
  simp only [ppuWriteLow] at h
  split at h
  · exact cartChrWrite_frame (by assumption) h
  · split at h
    · exact cartNtWrite_frame (by omega) (by assumption) h
    · cases h
      exact ⟨rfl, fun k hk => Memory.read_write_other _ v fun e => hk ⟨by omega, e⟩, fun _ => rfl, fun _ _ _ => rfl,
        fun _ _ _ => rfl⟩

/-- A Data write that completes is a PPU bus write at the address in v, folded onto the bus, and then v moves on (R270,
R273). -/
theorem ppuDataWrite_eq_ok {d : Byte} {s t : State} (h : ppuDataWrite d s = .ok () t) :
    ∃ u, PpuWriteFrame (dataAddress s.ppu.v) s u ∧ t = u.setPpu u.ppu.increment := by
  have ha : ppuAddressed s s.ppu.v = true := (Bool.and_eq_true_iff.mp (dataWritable_of_ppuDataWrite h)).1
  rw [ppuDataWrite, ppuWrite_busAddress ha] at h
  obtain ⟨_, u, hw, hi⟩ := Res.andThen_eq_ok.mp h
  cases hi
  exact ⟨u, ppuWriteLow_cells hw, rfl⟩

/-! ## Writes on the CPU bus (R70, R74) -/

/-- What an access of the CPU that writes at `a` leaves alone, but for the CPU itself: each part of the machine by the
addresses that reach it. -/
structure WriteFrame (a : Word) (s t : State) : Prop where
  only : t = { s with cpu := t.cpu, ram := t.ram, ppu := t.ppu, ctl := t.ctl, cart := t.cart, scratch := t.scratch }
  ram : ∀ k, ¬(a.toNat ≤ 0x1FFF ∧ k = a.toNat % 0x800) → t.ram.read k = s.ram.read k
  ppu : ¬(0x2000 ≤ a.toNat ∧ a.toNat ≤ 0x3FFF) → a ≠ 0x4014 → t.ppu = s.ppu
  scratch : a ≠ 0x4014 → t.scratch = s.scratch
  ctl : a ≠ 0x4016 → t.ctl = s.ctl
  oam : a ≠ 0x4014 → ∀ k, ¬(0x2000 ≤ a.toNat ∧ a.toNat ≤ 0x3FFF ∧ a.toNat % 8 = 4 ∧ k = s.ppu.oamAddr.toNat) →
    t.ppu.oam.read k = s.ppu.oam.read k
  pal : ¬(0x2000 ≤ a.toNat ∧ a.toNat ≤ 0x3FFF ∧ a.toNat % 8 = 7) → t.ppu.pal = s.ppu.pal
  cart : ¬(0x2000 ≤ a.toNat ∧ a.toNat ≤ 0x3FFF ∧ a.toNat % 8 = 7) → s.cfg.cart = .nrom → t.cart = s.cart

theorem WriteFrame.refl (a : Word) (s : State) : WriteFrame a s s :=
  ⟨rfl, fun _ _ => rfl, fun _ _ => rfl, fun _ => rfl, fun _ => rfl, fun _ _ _ => rfl, fun _ => rfl, fun _ _ => rfl⟩

theorem WriteFrame.setRam {a : Word} (ha : a.toNat ≤ 0x1FFF) (v : Byte) (s : State) :
    WriteFrame a s (s.setRam (s.ram.write (ramIndex a) v)) :=
  { WriteFrame.refl a s with
    only := rfl
    ram := fun _ hk => Memory.read_write_other _ v fun e => hk ⟨ha, e⟩ }

/-- The writes of the PPU's registers but Data reach OAM at the cursor and no palette RAM (R260-R269). -/
theorem ppuRegWrite_registers {r : PpuReg} {d : Byte} {s t : State} (hr : r ≠ .data) (h : ppuRegWrite r d s = .ok () t) :
    ∃ p : Ppu, t = s.setPpu p ∧ p.pal = s.ppu.pal ∧
      ∀ k, ¬(r = .oamData ∧ k = s.ppu.oamAddr.toNat) → p.oam.read k = s.ppu.oam.read k := by
  cases r
  case data => exact absurd rfl hr
  case oamData => cases h; exact ⟨_, rfl, rfl, fun k hk => Memory.read_write_other _ d fun e => hk ⟨rfl, e⟩⟩
  case status => cases h; exact ⟨s.ppu, rfl, rfl, fun _ _ => rfl⟩
  case scroll => cases h; refine ⟨_, rfl, ?_⟩; rw [Ppu.writeScroll]; split <;> exact ⟨rfl, fun _ _ => rfl⟩
  case address => cases h; refine ⟨_, rfl, ?_⟩; rw [Ppu.writeAddress]; split <;> exact ⟨rfl, fun _ _ => rfl⟩
  all_goals (cases h; exact ⟨_, rfl, rfl, fun _ _ => rfl⟩)

theorem ppuRegWrite_writeFrame {a : Word} {d : Byte} {s t : State} (ha : 0x2000 ≤ a.toNat) (ha' : a.toNat ≤ 0x3FFF)
    (h : ppuRegWrite (ppuReg a) d s = .ok () t) : WriteFrame a s t := by
  have range {p : Prop} (hn : ¬(0x2000 ≤ a.toNat ∧ a.toNat ≤ 0x3FFF)) : p := absurd ⟨ha, ha'⟩ hn
  by_cases hd : ppuReg a = .data
  · have h7 := ppuReg_eq_data.mp hd
    rw [hd] at h
    obtain ⟨u, f, rfl⟩ := ppuDataWrite_eq_ok h
    rw [f.only]
    exact ⟨rfl, fun _ _ => rfl, range, fun _ => rfl, fun _ => rfl, fun _ _ _ => rfl,
      fun hn => absurd ⟨ha, ha', h7⟩ hn, fun hn => absurd ⟨ha, ha', h7⟩ hn⟩
  · obtain ⟨p, rfl, hp, ho⟩ := ppuRegWrite_registers hd h
    exact ⟨rfl, fun _ _ => rfl, range, fun _ => rfl, fun _ => rfl,
      fun _ k hk => ho k fun ⟨hr, e⟩ => hk ⟨ha, ha', ppuReg_eq_iff.mp hr, e⟩, fun _ => hp, fun _ _ => rfl⟩

/-- A read away from the controller changes at most the PPU, and no palette RAM (R74). -/
theorem memRead_setPpu {a : Word} {s t : State} {b : Byte} (h : memRead a s = .ok b t) (ha : a ≠ 0x4016) :
    t = s.setPpu t.ppu ∧ t.ppu.pal = s.ppu.pal := by
  have hc := memRead_ctl_eq h ha
  obtain ⟨vb, w, v, c, sh, rfl, -⟩ := memRead_eq_ok h
  exact ⟨congrArg (State.setCtl _) hc, rfl⟩

/-- A completed OAM DMA changes the PPU and the step's stall alone, and no palette RAM (R315-R317): a page with the
controller in it also has unmapped addresses. -/
theorem oamDma_eq_ok {page : Byte} {s t : State} (h : oamDma page s = .ok () t) :
    t = (s.setPpu t.ppu).setDmaStall Config.dmaStall ∧ t.ppu.pal = s.ppu.pal := by
  have hp : page.toNat ≠ 0x40 := fun e => by
    have hd := dmaReadable_of_oamDma h
    rw [dmaReadable, e, if_neg (by decide), if_neg (by decide), if_pos rfl] at hd
    cases hd
  have keeps : ∀ i < 256, ∀ u v, u = s.setPpu u.ppu ∧ u.ppu.pal = s.ppu.pal → dmaByte page i u = .ok () v →
      v = s.setPpu v.ppu ∧ v.ppu.pal = s.ppu.pal := by
    rintro i hi u v ⟨hu, hpal⟩ hb
    obtain ⟨b, w, hr, hw⟩ := Res.andThen_eq_ok.mp hb
    cases hw
    have ha : dmaSource page i ≠ 0x4016 := fun e => by
      have hn := dmaSource_toNat page hi
      rw [e] at hn
      have h6 : (0x4016 : Word).toNat = 0x4016 := rfl
      omega
    obtain ⟨hw, hq⟩ := memRead_setPpu hr ha
    rw [hw, hu]
    exact ⟨rfl, hq.trans hpal⟩
  obtain ⟨_, u, hl, he⟩ := Res.andThen_eq_ok.mp h
  cases he
  obtain ⟨hu, hq⟩ := (forEach_range_steps keeps ⟨rfl, rfl⟩ hl).1
  exact ⟨congrArg (State.setDmaStall · Config.dmaStall) hu, hq⟩

theorem cartCpuWrite_eq_ok {a : Word} {v : Byte} {s t : State} (h : cartCpuWrite a v s = .ok () t) :
    t = s.setCart t.cart ∧ (s.cfg.cart = .nrom → t.cart = s.cart) := by
  simp only [cartCpuWrite] at h
  cases hc : s.cfg.cart <;> simp only [hc] at h
  · split at h
    · cases hw : s.cfg.prgWrite <;> simp only [hw] at h <;> cases h
      exact ⟨rfl, fun _ => rfl⟩
    · cases h
  · obtain ⟨e, rfl⟩ := externalWrite_eq_ok h
    exact ⟨rfl, fun n => nomatch n⟩

theorem memWrite_writeFrame {a : Word} {v : Byte} {s t : State} (h : memWrite a v s = .ok () t) : WriteFrame a s t := by
  by_cases hram : a.toNat ≤ 0x1FFF
  · cases (memWrite_ram hram v s).symm.trans h
    exact WriteFrame.setRam hram v s
  by_cases hppu : a.toNat ≤ 0x3FFF
  · rw [memWrite_ppu (by omega) hppu] at h
    exact ppuRegWrite_writeFrame (by omega) hppu h
  by_cases hdma : a = 0x4014
  · subst hdma
    rw [memWrite_dma rfl] at h
    obtain ⟨e, hp⟩ := oamDma_eq_ok h
    rw [e]
    exact ⟨rfl, fun _ _ => rfl, fun _ hn => absurd rfl hn, fun hn => absurd rfl hn, fun _ => rfl,
      fun hn => absurd rfl hn, fun _ => hp, fun _ _ => rfl⟩
  by_cases hctl : a = 0x4016
  · subst hctl
    cases h
    exact { WriteFrame.refl _ s with only := rfl, ctl := fun hn => absurd rfl hn }
  by_cases hio : a.toNat ≤ 0x4017
  · cases (memWrite_inert (inertApu_of_io (by omega) hio hdma hctl) v s).symm.trans h
    exact WriteFrame.refl a _
  by_cases hun : a.toNat ≤ 0x401F
  · rw [memWrite_unmapped (by omega) hun] at h
    cases h
  · rw [memWrite_cart (by omega)] at h
    obtain ⟨e, hc⟩ := cartCpuWrite_eq_ok h
    rw [e]
    exact { WriteFrame.refl a s with only := rfl, cart := fun _ => hc }

/-- A write of Data is a PPU bus write at the address in v, and then v moves on (R63, R270). -/
theorem memWrite_data_cells {a : Word} {v : Byte} {s t : State} (h : memWrite a v s = .ok () t)
    (ha : 0x2000 ≤ a.toNat ∧ a.toNat ≤ 0x3FFF ∧ a.toNat % 8 = 7) :
    ∃ u, PpuWriteFrame (dataAddress s.ppu.v) s u ∧ t = u.setPpu u.ppu.increment := by
  obtain ⟨hl, hh, h7⟩ := ha
  rw [memWrite_ppu (by omega) hh, ppuReg_eq_data.mpr h7] at h
  exact ppuDataWrite_eq_ok h

/-- Settles O26, by the regions of the bus, and by the PPU bus's regions for a write of Data. -/
theorem writeFrame : Obligations.WriteFrame := by
  unfold Obligations.WriteFrame
  intro a v s t h
  have f := memWrite_writeFrame h
  have only := f.only
  rw [memWrite_cpu h] at only
  refine ⟨only, f.ram, f.ppu, f.scratch, f.ctl, f.oam, ?_⟩
  have prg := (memWrite_frame h).prg
  by_cases ha : 0x2000 ≤ a.toNat ∧ a.toNat ≤ 0x3FFF ∧ a.toNat % 8 = 7
  · obtain ⟨u, g, rfl⟩ := memWrite_data_cells h ha
    obtain ⟨hl, hh, h7⟩ := ha
    exact ⟨fun k hk => g.pal k fun hc => hk ⟨hl, hh, h7, hc⟩, prg, fun hn => ⟨g.external hn,
      fun k hk => g.chr hn k fun hc => hk ⟨hl, hh, h7, hc⟩, fun k hk => g.ciram hn k fun hc => hk ⟨hl, hh, h7, hc⟩⟩⟩
  · refine ⟨fun k _ => by rw [f.pal ha], prg, fun hn => ?_⟩
    rw [f.cart ha hn]
    exact ⟨rfl, fun _ _ => rfl, fun _ _ => rfl⟩

/-! ## The PPU bus read back (R78, R81, R86, R87) -/

theorem ppuWrite_low {a : Word} (h : a.toNat < 0x4000) (v : Byte) (s : State) : ppuWrite a v s = ppuWriteLow a v s := by
  rw [ppuWrite, if_neg (by omega)]

theorem ppuRead_palette {a : Word} (h : 0x3F00 ≤ a.toNat) (h' : a.toNat ≤ 0x3FFF) (s : State) :
    ppuRead a s = .ok (s.ppu.pal.read (palIndex a.toNat)) s := by
  rw [ppuRead_low (by omega), ppuReadLow, if_neg (by omega), if_neg (by omega)]

theorem ppuWrite_palette {a : Word} (h : 0x3F00 ≤ a.toNat) (h' : a.toNat ≤ 0x3FFF) (v : Byte) (s : State) :
    ppuWrite a v s = .ok () (s.setPpu { s.ppu with pal := s.ppu.pal.write (palIndex a.toNat) v }) := by
  rw [ppuWrite_low (by omega), ppuWriteLow, if_neg (by omega), if_neg (by omega)]

theorem ppuRead_nametable {a : Word} {s : State} (hc : s.cfg.cart = .nrom) (h : 0x2000 ≤ a.toNat)
    (h' : a.toNat ≤ 0x3EFF) : ppuRead a s = .ok (s.cart.ciram.read (ntCell s.cfg.mirroring a)) s := by
  rw [ppuRead_low (by omega), ppuReadLow, if_neg (by omega), if_pos h', cartNtRead, hc]

theorem ppuWrite_nametable {a : Word} {s : State} (hc : s.cfg.cart = .nrom) (h : 0x2000 ≤ a.toNat)
    (h' : a.toNat ≤ 0x3EFF) (v : Byte) : ppuWrite a v s =
      .ok () (s.setCart { s.cart with ciram := s.cart.ciram.write (ntCell s.cfg.mirroring a) v }) := by
  rw [ppuWrite_low (by omega), ppuWriteLow, if_neg (by omega), if_pos h', cartNtWrite, hc]

theorem ppuRead_pattern {a : Word} {s : State} (hc : s.cfg.cart = .nrom) (h : a.toNat ≤ 0x1FFF) :
    ppuRead a s = .ok (s.cart.chr.read a.toNat) s := by
  rw [ppuRead_low (by omega), ppuReadLow, if_pos h, cartChrRead, hc]

theorem ppuWrite_pattern {a : Word} (h : a.toNat ≤ 0x1FFF) (v : Byte) (s : State) :
    ppuWrite a v s = cartChrWrite a v s := by
  rw [ppuWrite_low (by omega), ppuWriteLow, if_pos h]

/-- The aliases of a palette cell: the address modulo 32, and the four pairs of R81. -/
theorem palIndex_eq_iff (a b : Nat) : palIndex b = palIndex a ↔ b % 32 = a % 32 ∨ (a % 4 = 0 ∧ b % 16 = a % 16) := by
  simp only [palIndex]
  split <;> split <;> omega

/-- The aliases of a nametable cell: the offset in a table, and the table's column or row by the mirroring (R87). -/
theorem ntCell_eq_iff (m : Mirroring) {a b : Word} (ha : 0x2000 ≤ a.toNat) (hb : 0x2000 ≤ b.toNat) :
    ntCell m b = ntCell m a ↔ b.toNat % 0x400 = a.toNat % 0x400 ∧
      (if m = .vertical then b.toNat / 0x400 % 2 = a.toNat / 0x400 % 2 else b.toNat / 0x800 % 2 = a.toNat / 0x800 % 2) := by
  cases m
  case vertical =>
    simp only [ntCell, if_true]
    omega
  case horizontal =>
    simp only [ntCell, reduceCtorEq, if_false]
    omega

/-- Settles O28, by reading a memory back after a write of the cell the address reaches, in each region of the bus. -/
theorem ppuBusReadsBack : Obligations.PpuBusReadsBack := by
  unfold Obligations.PpuBusReadsBack
  refine fun a b v s => ⟨fun t ht => ⟨fun ha ha' hb hb' => ?_, fun hn ha ha' hb hb' => ?_⟩, fun hn ha hb => ?_⟩
  · cases (ppuWrite_palette ha ha' v s).symm.trans ht
    refine ⟨_, ppuRead_palette hb hb' s, ?_⟩
    rw [ppuRead_palette hb hb']
    simp only [State.setPpu_ppu, Memory.read_write, palIndex_eq_iff]
  · cases (ppuWrite_nametable hn ha ha' v).symm.trans ht
    refine ⟨_, ppuRead_nametable hn hb hb', ?_⟩
    rw [ppuRead_nametable (by exact hn) hb hb']
    simp only [State.setCart_cart, State.setCart_cfg, Memory.read_write, ntCell_eq_iff s.cfg.mirroring ha hb]
  · rw [ppuWrite_pattern ha, cartChrWrite, hn]
    refine ⟨ppuRead_pattern hn hb, fun hw => by rw [hw], fun hw => by rw [hw], fun hw => ⟨_, by rw [hw], rfl, ?_⟩⟩
    rw [ppuRead_pattern (by exact hn) hb]
    simp only [State.setCart_cart, Memory.read_write, BitVec.toNat_inj]

end Sys2Proof.Machine

/-! SUPPORT. What the instructions that read their operand and those that store to it leave alone (O56, O57). -/

namespace Sys2Proof.Machine

/-- Whether an operand fits a mnemonic that reads it, stores to it or modifies it: no such operand is implied or a jump's
pointer, A is only modified, and an immediate is only read (R121-R132, R190). -/
def operandFits (m : Mnemonic) : Operand → Bool
  | .imp | .ind _ _ => decide (m ∉ readers ++ storers ++ modifiers)
  | .acc => decide (m ∉ readers ++ storers)
  | .imm _ => decide (m ∉ storers ++ modifiers)
  | _ => true

/-- Every row of the table pairs its mnemonic with an operand that fits it (R111). -/
theorem operandFits_of_instr (i : Instr) : operandFits i.mnemonic i.operand = true := by
  cases i <;> rfl

/-! ## The instructions that only read their operand (R135, R140-R142, R163-R171, R241) -/

/-- What a reading instruction does with the byte it has read (R140-R142, R163-R171, R241). -/
def readerLast (m : Mnemonic) (b : Byte) (t : State) : State :=
  match m with
  | .lda => (t.setA b).setNZ b
  | .ldx => (t.setX b).setNZ b
  | .ldy => (t.setY b).setNZ b
  | .lax => ((t.setA b).setX b).setNZ b
  | .adc => t.addWithCarry b
  | .sbc => t.addWithCarry (~~~b)
  | .and => (t.setA (t.cpu.a &&& b)).setNZ (t.cpu.a &&& b)
  | .ora => (t.setA (t.cpu.a ||| b)).setNZ (t.cpu.a ||| b)
  | .eor => (t.setA (t.cpu.a ^^^ b)).setNZ (t.cpu.a ^^^ b)
  | .cmp => t.compare t.cpu.a b
  | .cpx => t.compare t.cpu.x b
  | .cpy => t.compare t.cpu.y b
  | .bit => t.setFlags (t.cpu.flags.bitTest t.cpu.a b)
  | _ => t

theorem actionOf_reader_eq {m : Mnemonic} (h : m ∈ readers) (r : Resolved) (s : State) :
    actionOf m r s = (loadOperand r s).andThen fun b t => .ok () (readerLast m b t) := by
  cases m
  case lda | ldx | ldy | lax | adc | sbc | and | ora | eor | cmp | cpx | cpy | bit => rfl
  all_goals exact absurd h (by decide)

/-- The last change of a reading instruction is one of the CPU: A, X, Y and the flags but D and I. -/
theorem readerLast_eq (m : Mnemonic) (b : Byte) (t : State) :
    ∃ a x y n v z c, readerLast m b t = t.setCpu { t.cpu with
      a := a, x := x, y := y, flags := { t.cpu.flags with n := n, v := v, z := z, c := c } } := by
  cases m <;> exact ⟨_, _, _, _, _, _, _, rfl⟩

theorem readerLast_a {m : Mnemonic} (h : m ∉ [.lda, .lax, .adc, .sbc, .and, .ora, .eor]) (b : Byte) (t : State) :
    (readerLast m b t).cpu.a = t.cpu.a := by
  cases m
  case lda | lax | adc | sbc | and | ora | eor => exact absurd (by decide) h
  all_goals rfl

theorem readerLast_x {m : Mnemonic} (h : m ∉ [.ldx, .lax]) (b : Byte) (t : State) :
    (readerLast m b t).cpu.x = t.cpu.x := by
  cases m
  case ldx | lax => exact absurd (by decide) h
  all_goals rfl

theorem readerLast_y {m : Mnemonic} (h : m ≠ .ldy) (b : Byte) (t : State) : (readerLast m b t).cpu.y = t.cpu.y := by
  cases m
  case ldy => exact absurd rfl h
  all_goals rfl

theorem readerLast_v {m : Mnemonic} (h : m ∉ [.adc, .sbc, .bit]) (b : Byte) (t : State) :
    (readerLast m b t).cpu.flags.v = t.cpu.flags.v := by
  cases m
  case adc | sbc | bit => exact absurd (by decide) h
  all_goals rfl

theorem readerLast_c {m : Mnemonic} (h : m ∉ [.adc, .sbc, .cmp, .cpx, .cpy]) (b : Byte) (t : State) :
    (readerLast m b t).cpu.flags.c = t.cpu.flags.c := by
  cases m
  case adc | sbc | cmp | cpx | cpy => exact absurd (by decide) h
  all_goals rfl

/-- A reading instruction has an immediate operand or an effective address (R121-R131). -/
theorem operand_of_reader {i : Instr} (h : i.mnemonic ∈ readers) (s : State) :
    (∃ b, i.operand = .imm b) ∨ ∃ a, effectiveAddress i.operand s = some a := by
  have hf := operandFits_of_instr i
  generalize i.operand = o at hf ⊢
  cases o
  case imp | acc | ind => exact absurd (by simp [h]) (of_decide_eq_true hf)
  case imm b => exact .inl ⟨b, rfl⟩
  all_goals exact .inr ⟨_, rfl⟩

/-- What a reading instruction went through: the read at its effective address, where it has one, and its last change. -/
theorem exec_reader {i : Instr} {s t : State} (hm : i.mnemonic ∈ readers) (h : exec i s = .next t) :
    ∃ b u, t = readerLast i.mnemonic b u ∧
      (u = resolved i.operand s ∨
        ∃ a, effectiveAddress i.operand s = some a ∧ memRead a (resolved i.operand s) = .ok b u) := by
  have hu : i.mnemonic ≠ .undefined := fun e => absurd (e ▸ hm) (by decide)
  rw [exec_eq i s hu, perform_eq_next] at h
  obtain ⟨r, w, hr, ha⟩ := h
  rw [actionOf_reader_eq hm] at ha
  obtain ⟨b, u, hl, he⟩ := Res.andThen_eq_ok.mp ha
  cases he
  rcases operand_of_reader hm s with ⟨i, hi⟩ | ⟨a, ea⟩
  · rw [hi] at hr ⊢
    cases hr
    cases hl
    exact ⟨_, _, rfl, .inl rfl⟩
  · cases (resolve_address ea).symm.trans hr
    exact ⟨b, u, rfl, .inr ⟨a, ea, hl⟩⟩

theorem plainRead_congr {s t : State} (hr : t.ram = s.ram) (hk : t.cart = s.cart) (hc : t.cfg = s.cfg) (a : Word) :
    plainRead t a = plainRead s a := by
  simp only [plainRead, hr, hk, hc]

/-- A read whose address is neither Status, Data nor the controller changes nothing (R74). -/
theorem memRead_no_effect {a : Word} {s t : State} {b : Byte} (h : memRead a s = .ok b t)
    (ha : a ≠ 0x4016 ∧ ¬(0x2000 ≤ a.toNat ∧ a.toNat ≤ 0x3FFF ∧ (a.toNat % 8 = 2 ∨ a.toNat % 8 = 7))) : t = s := by
  obtain ⟨hc, hp⟩ := ha
  rcases readFrame a b s t h with ⟨hl, hh, h2, -⟩ | ⟨hl, hh, h7, -⟩ | ⟨hc', -⟩ | e
  · exact absurd ⟨hl, hh, .inl h2⟩ hp
  · exact absurd ⟨hl, hh, .inr h7⟩ hp
  · exact absurd hc' hc
  · exact e

/-- What a reading instruction's operand leaves before its last change: `resolved` with the side effects of one read. -/
theorem exec_reader_effects {i : Instr} {s t : State} (hm : i.mnemonic ∈ readers) (h : exec i s = .next t) :
    ∃ b u vb w v c sh, t = readerLast i.mnemonic b u ∧
      u = ((resolved i.operand s).setPpu { s.ppu with vblank := vb, w := w, v := v, buffer := c }).setCtl
        { s.ctl with shift := sh } := by
  obtain ⟨b, u, ht, hu | ⟨a, -, hr⟩⟩ := exec_reader hm h
  · exact ⟨b, u, _, _, _, _, _, ht, hu⟩
  · obtain ⟨vb, w, v, c, sh, hu, -⟩ := memRead_eq_ok hr
    exact ⟨b, u, vb, w, v, c, sh, ht, hu⟩

/-- Settles O56, by the side effects of the one read and by what the last change of each mnemonic leaves alone. -/
theorem frameOfReadingInstructions : Obligations.FrameOfReadingInstructions := by
  unfold Obligations.FrameOfReadingInstructions
  intro i s t hm h
  have devices : (∀ a, effectiveAddress i.operand s = some a →
      a ≠ 0x4016 ∧ ¬(0x2000 ≤ a.toNat ∧ a.toNat ≤ 0x3FFF ∧ (a.toNat % 8 = 2 ∨ a.toNat % 8 = 7))) →
      t.ppu = s.ppu ∧ t.ctl = s.ctl := by
    intro ha
    obtain ⟨b, u, rfl, hu⟩ := exec_reader hm h
    have hu : u = resolved i.operand s := by
      rcases hu with hu | ⟨a, ea, hr⟩
      · exact hu
      · exact memRead_no_effect hr (ha a ea)
    obtain ⟨_, _, _, _, _, _, _, e⟩ := readerLast_eq i.mnemonic b u
    rw [e, hu]
    exact ⟨rfl, rfl⟩
  obtain ⟨b, u, vb, w, v, c, sh, rfl, hu⟩ := exec_reader_effects hm h
  obtain ⟨_, _, _, _, _, _, _, e⟩ := readerLast_eq i.mnemonic b u
  subst hu
  refine ⟨?_, ?_, fun hn => readerLast_a hn b _, fun hn => readerLast_x hn b _, fun hn => readerLast_y hn b _, ?_, ?_,
    fun hn => readerLast_v hn b _, fun hn => readerLast_c hn b _, devices⟩
  all_goals rw [e]
  · rfl
  · exact plainRead_congr rfl rfl rfl
  · rfl
  · rfl

/-! ## The stores and the read-modify-writes (R143-R145, R172, R173, R190-R194, R242, R244-R249) -/

/-- The CPU's registers are on no bus: changing them before a write leaves what the write leaves alone. -/
theorem WriteFrame.of_setCpu {a : Word} {s t : State} {c : Cpu} (h : WriteFrame a (s.setCpu c) t) : WriteFrame a s t :=
  ⟨h.only, h.ram, h.ppu, h.scratch, h.ctl, h.oam, h.pal, h.cart⟩

theorem WriteFrame.setCpu {a : Word} {s t : State} (h : WriteFrame a s t) (c : Cpu) : WriteFrame a s (t.setCpu c) :=
  ⟨congrArg (State.setCpu · c) h.only, h.ram, h.ppu, h.scratch, h.ctl, h.oam, h.pal, h.cart⟩

/-- A read of the address first leaves what the write leaves alone (R190). -/
theorem WriteFrame.of_memRead {a : Word} {s u t : State} {b : Byte} (hr : memRead a s = .ok b u)
    (h : WriteFrame a u t) : WriteFrame a s t := by
  have hp := memRead_ppu_eq hr
  have hc := memRead_ctl_eq hr
  obtain ⟨vb, w, v, c, sh, rfl, -⟩ := memRead_eq_ok hr
  exact ⟨h.only, h.ram, fun hn hd => (h.ppu hn hd).trans (hp hn), h.scratch, fun hn => (h.ctl hn).trans (hc hn), h.oam,
    h.pal, h.cart⟩

/-- The last change of a read-modify-write instruction is one of the CPU: A and the flags but D and I. -/
theorem rmwLast_eq (m : Mnemonic) (b : Byte) (t : State) :
    ∃ a n v z c, rmwLast m b t = t.setCpu { t.cpu with
      a := a, flags := { t.cpu.flags with n := n, v := v, z := z, c := c } } := by
  cases m <;> exact ⟨_, _, _, _, _, rfl⟩

theorem rmwLast_a {m : Mnemonic} (h : m ∉ [.slo, .rla, .sre, .rra, .isb]) (b : Byte) (t : State) :
    (rmwLast m b t).cpu.a = t.cpu.a := by
  cases m
  case slo | rla | sre | rra | isb => exact absurd (by decide) h
  all_goals rfl

theorem rmwLast_v {m : Mnemonic} (h : m ∉ [.rra, .isb]) (b : Byte) (t : State) :
    (rmwLast m b t).cpu.flags.v = t.cpu.flags.v := by
  cases m
  case rra | isb => exact absurd (by decide) h
  all_goals rfl

/-- INC and DEC have no carry out (R172, R173). -/
theorem rmwLast_c {m : Mnemonic} (h : m ∈ [.inc, .dec]) (b : Byte) (t : State) :
    (rmwLast m b t).cpu.flags.c = t.cpu.flags.c := by
  cases m
  case inc | dec => rfl
  all_goals exact absurd h (by decide)

theorem rmwCarry_eq {m : Mnemonic} (h : m ∈ [.inc, .dec]) (c : Bool) (b : Byte) : rmwCarry m c b = c := by
  cases m
  case inc | dec => rfl
  all_goals exact absurd h (by decide)

/-- What an instruction of mnemonic `m` and operand `o` that stores leaves alone in the CPU. -/
structure StoreCpuFrame (m : Mnemonic) (o : Operand) (p q : Cpu) : Prop where
  only : q = { p with a := q.a, flags := q.flags }
  a : m ∉ [.slo, .rla, .sre, .rra, .isb] → o ≠ .acc → q.a = p.a
  flags : m ∈ storers → q.flags = p.flags
  d : q.flags.d = p.flags.d
  i : q.flags.i = p.flags.i
  v : m ∉ [.rra, .isb] → q.flags.v = p.flags.v
  c : m ∈ [.inc, .dec] → q.flags.c = p.flags.c

theorem StoreCpuFrame.refl (m : Mnemonic) (o : Operand) (p : Cpu) : StoreCpuFrame m o p p :=
  ⟨rfl, fun _ _ => rfl, fun _ => rfl, rfl, rfl, fun _ => rfl, fun _ => rfl⟩

/-- A read-modify-write instruction writes C, A where that is its operand, and then makes its last change (R190). -/
theorem StoreCpuFrame.rmw {m : Mnemonic} {o : Operand} {p : Cpu} {b x r : Byte} {w : State} (hm : m ∈ modifiers)
    (hw : w.cpu = { p with a := r, flags := { p.flags with c := rmwCarry m p.flags.c b } }) (hr : o ≠ .acc → r = p.a) :
    StoreCpuFrame m o p (rmwLast m x w).cpu := by
  have hs : m ∉ storers := by revert hm; cases m <;> decide
  have ha := fun h => (rmwLast_a (m := m) h x w).trans (congrArg Cpu.a hw)
  have hv := fun h => (rmwLast_v (m := m) h x w).trans (congrArg (fun c : Cpu => c.flags.v) hw)
  have hc := fun h => (rmwLast_c (m := m) h x w).trans (congrArg (fun c : Cpu => c.flags.c) hw)
  obtain ⟨_, _, _, _, _, e⟩ := rmwLast_eq m x w
  refine ⟨?_, fun h h' => (ha h).trans (hr h'), fun h => absurd h hs, ?_, ?_, hv, fun h => (hc h).trans (rmwCarry_eq h _ _)⟩
  all_goals rw [e, State.setCpu_cpu, hw]

/-- A store has an effective address (R143-R145, R242). -/
theorem operand_of_storer {i : Instr} (h : i.mnemonic ∈ storers) (s : State) :
    ∃ a, effectiveAddress i.operand s = some a := by
  have hf := operandFits_of_instr i
  generalize i.operand = o at hf ⊢
  cases o
  case imp | acc | imm | ind => exact absurd (by simp [h]) (of_decide_eq_true hf)
  all_goals exact ⟨_, rfl⟩

/-- A read-modify-write instruction works on A or has an effective address (R190). -/
theorem operand_of_modifier {i : Instr} (h : i.mnemonic ∈ modifiers) (s : State) :
    i.operand = .acc ∨ ∃ a, effectiveAddress i.operand s = some a := by
  have hf := operandFits_of_instr i
  generalize i.operand = o at hf ⊢
  cases o
  case acc => exact .inl rfl
  case imp | imm | ind => exact absurd (by simp [h]) (of_decide_eq_true hf)
  all_goals exact .inr ⟨_, rfl⟩

/-- A store is one write at its effective address (R143-R145, R242). -/
theorem exec_storer {i : Instr} {s t : State} (hm : i.mnemonic ∈ storers) (h : exec i s = .next t) :
    ∃ a v, effectiveAddress i.operand s = some a ∧ memWrite a v (resolved i.operand s) = .ok () t := by
  have hu : i.mnemonic ≠ .undefined := fun e => absurd (e ▸ hm) (by decide)
  obtain ⟨a, ea⟩ := operand_of_storer hm s
  rw [exec_eq i s hu, perform, resolve_address ea, Res.andThen_ok, Res.toOutcome_eq_next] at h
  generalize i.mnemonic = m at hm h
  cases m
  case sta | stx | sty | sax => exact ⟨a, _, ea, h⟩
  all_goals exact absurd hm (by decide)

/-- What a read-modify-write instruction went through: on A no bus access, and otherwise the read and the write at its
effective address; and its last change (R190). -/
theorem exec_modifier {i : Instr} {s t : State} (hm : i.mnemonic ∈ modifiers) (h : exec i s = .next t) :
    ∃ b x w, t = rmwLast i.mnemonic x w ∧
      ((i.operand = .acc ∧ w = ((resolved .acc s).setC (rmwCarry i.mnemonic s.cpu.flags.c b)).setA x) ∨
        ∃ a u, effectiveAddress i.operand s = some a ∧ memRead a (resolved i.operand s) = .ok b u ∧
          memWrite a x (u.setC (rmwCarry i.mnemonic u.cpu.flags.c b)) = .ok () w) := by
  have hu : i.mnemonic ≠ .undefined := fun e => absurd (e ▸ hm) (by decide)
  rw [exec_eq i s hu, perform_eq_next, actionOf_modifier hm] at h
  obtain ⟨r, p, hr, h⟩ := h
  obtain ⟨b, u, hl, h⟩ := Res.andThen_eq_ok.mp h
  obtain ⟨_, w, hw, h⟩ := Res.andThen_eq_ok.mp h
  cases h
  rcases operand_of_modifier hm s with ho | ⟨a, ea⟩
  · rw [ho] at hr
    cases hr
    cases hl
    cases hw
    exact ⟨_, _, _, rfl, .inl ⟨ho, rfl⟩⟩
  · cases (resolve_address ea).symm.trans hr
    exact ⟨b, _, w, rfl, .inr ⟨a, u, ea, hl, hw⟩⟩

/-- Where an instruction that stores has an effective address, what it leaves alone is what a write there does. -/
theorem exec_writeFrame {i : Instr} {s t : State} {a : Word} (hm : i.mnemonic ∈ storers ++ modifiers)
    (h : exec i s = .next t) (ea : effectiveAddress i.operand s = some a) : WriteFrame a (resolved i.operand s) t := by
  rcases List.mem_append.mp hm with hm | hm
  · obtain ⟨a', v, ea', hw⟩ := exec_storer hm h
    cases ea.symm.trans ea'
    exact memWrite_writeFrame hw
  · obtain ⟨b, x, w, rfl, ⟨ho, -⟩ | ⟨a', u, ea', hr, hw⟩⟩ := exec_modifier hm h
    · rw [ho] at ea
      cases ea
    · cases ea.symm.trans ea'
      obtain ⟨_, _, _, _, _, e⟩ := rmwLast_eq i.mnemonic x w
      rw [e]
      exact ((memWrite_writeFrame hw).of_setCpu.of_memRead hr).setCpu _

/-- An instruction that stores and has no effective address works on A: it changes the CPU alone (R190). -/
theorem exec_accumulator {i : Instr} {s t : State} (hm : i.mnemonic ∈ storers ++ modifiers) (h : exec i s = .next t)
    (ea : effectiveAddress i.operand s = none) : ∃ c, t = (resolved i.operand s).setCpu c := by
  rcases List.mem_append.mp hm with hm | hm
  · obtain ⟨a, -, ea', -⟩ := exec_storer hm h
    cases ea.symm.trans ea'
  · obtain ⟨b, x, w, rfl, ⟨ho, hw⟩ | ⟨a, -, ea', -⟩⟩ := exec_modifier hm h
    · obtain ⟨_, _, _, _, _, e⟩ := rmwLast_eq i.mnemonic x w
      rw [e, hw, ho]
      exact ⟨_, rfl⟩
    · cases ea.symm.trans ea'

theorem exec_storeCpuFrame {i : Instr} {s t : State} (hm : i.mnemonic ∈ storers ++ modifiers) (h : exec i s = .next t) :
    StoreCpuFrame i.mnemonic i.operand s.cpu t.cpu := by
  rcases List.mem_append.mp hm with hm | hm
  · obtain ⟨a, v, -, hw⟩ := exec_storer hm h
    rw [memWrite_cpu hw]
    exact StoreCpuFrame.refl _ _ s.cpu
  · obtain ⟨b, x, w, rfl, ⟨ho, rfl⟩ | ⟨a, u, -, hr, hw⟩⟩ := exec_modifier hm h
    · exact StoreCpuFrame.rmw hm rfl fun hn => absurd ho hn
    · have hu : u.cpu = s.cpu := (memRead_frame hr).2.1
      refine StoreCpuFrame.rmw (b := b) (r := s.cpu.a) hm ?_ fun _ => rfl
      rw [memWrite_cpu hw, ← hu]
      rfl

/-- With the default cartridge, what stands at an address changes only where a write reaches it in RAM (R62, R85). -/
theorem WriteFrame.plainRead_eq {a b : Word} {s t : State} (h : WriteFrame a s t) (hp : t.cart.prg = s.cart.prg)
    (hn : s.cfg.cart = .nrom) (hb : ¬(a.toNat ≤ 0x1FFF ∧ b.toNat ≤ 0x1FFF ∧ b.toNat % 0x800 = a.toNat % 0x800)) :
    plainRead t b = plainRead s b := by
  have hc : t.cfg = s.cfg := by rw [h.only]
  simp only [plainRead, hc, hn, hp]
  split
  · rw [h.ram (ramIndex b) fun ⟨ha, e⟩ => hb ⟨ha, by assumption, e⟩]
  · rfl

/-- Settles O57, by the one write of a store and the one read and one write of a read-modify-write. -/
theorem frameOfStoringInstructions : Obligations.FrameOfStoringInstructions := by
  unfold Obligations.FrameOfStoringInstructions
  intro i s t hm h
  have c := exec_storeCpuFrame hm h
  have prg := (exec_frame h).prg
  have only : t = { s with
      cpu := t.cpu, ram := t.ram, ppu := t.ppu, ctl := t.ctl, cart := t.cart, scratch := t.scratch } := by
    cases ea : effectiveAddress i.operand s with
    | none =>
      obtain ⟨p, rfl⟩ := exec_accumulator hm h ea
      rfl
    | some a => exact (exec_writeFrame hm h ea).only
  refine ⟨by rwa [c.only] at only, prg, c.a, c.flags, c.d, c.i, c.v, c.c, fun ea => ?_, fun a ea => ?_⟩
  · obtain ⟨p, rfl⟩ := exec_accumulator hm h ea
    exact ⟨rfl, rfl, rfl, rfl⟩
  · have f := exec_writeFrame hm h ea
    refine ⟨f.ram, fun b hb hn => f.plainRead_eq prg hn hb, f.ppu, fun hn => f.cart fun hd => hn ⟨hd.1, hd.2.1⟩, f.ctl,
      fun hd => ⟨by rw [f.scratch hd]; rfl, f.oam hd⟩, fun h7 => ?_⟩
    have hd : ¬(0x2000 ≤ a.toNat ∧ a.toNat ≤ 0x3FFF ∧ a.toNat % 8 = 7) := fun hd => h7 hd.2.2
    exact ⟨f.pal hd, f.cart hd⟩

end Sys2Proof.Machine

/-! SUPPORT. The decoder against the encoder (O1, O2), the kinds of opcode byte (O3), and the undefined opcode (O5). -/

namespace Sys2Proof

/-! ## The cells of the opcode map (R100, R103, R111) -/

/-- The opcode map's cell at an instruction's opcode byte makes that instruction: the law of each constructor, in the
order of `Instr` (R100, R111). -/
theorem opcodeCell (i : Instr) : Laws.OpcodeCell.Statement i :=
  open Laws.OpcodeCell in
  Instr.casesOn i
    oraIndx sloIndx nopZp04 oraZp aslZp sloZp oraImm nopAbs0C oraAbs aslAbs sloAbs bplRel oraIndy sloIndy nopZpx14
    oraZpx aslZpx sloZpx oraAbsy sloAbsy nopAbsx1C oraAbsx aslAbsx sloAbsx jsrAbs andIndx rlaIndx bitZp andZp rolZp
    rlaZp andImm bitAbs andAbs rolAbs rlaAbs bmiRel andIndy rlaIndy nopZpx34 andZpx rolZpx rlaZpx andAbsy rlaAbsy
    nopAbsx3C andAbsx rolAbsx rlaAbsx eorIndx sreIndx nopZp44 eorZp lsrZp sreZp eorImm jmpAbs eorAbs lsrAbs sreAbs
    bvcRel eorIndy sreIndy nopZpx54 eorZpx lsrZpx sreZpx eorAbsy sreAbsy nopAbsx5C eorAbsx lsrAbsx sreAbsx adcIndx
    rraIndx nopZp64 adcZp rorZp rraZp adcImm jmpInd adcAbs rorAbs rraAbs bvsRel adcIndy rraIndy nopZpx74 adcZpx rorZpx
    rraZpx adcAbsy rraAbsy nopAbsx7C adcAbsx rorAbsx rraAbsx nopImm80 staIndx nopImm82 saxIndx styZp staZp stxZp saxZp
    nopImm89 styAbs staAbs stxAbs saxAbs bccRel staIndy styZpx staZpx stxZpy saxZpy staAbsy staAbsx ldyImm ldaIndx
    ldxImm laxIndx ldyZp ldaZp ldxZp laxZp ldaImm ldyAbs ldaAbs ldxAbs laxAbs bcsRel ldaIndy laxIndy ldyZpx ldaZpx
    ldxZpy laxZpy ldaAbsy ldyAbsx ldaAbsx ldxAbsy laxAbsy cpyImm cmpIndx nopImmC2 dcpIndx cpyZp cmpZp decZp dcpZp
    cmpImm cpyAbs cmpAbs decAbs dcpAbs bneRel cmpIndy dcpIndy nopZpxD4 cmpZpx decZpx dcpZpx cmpAbsy dcpAbsy nopAbsxDC
    cmpAbsx decAbsx dcpAbsx cpxImm sbcIndx nopImmE2 isbIndx cpxZp sbcZp incZp isbZp sbcImm sbcImmEB cpxAbs sbcAbs
    incAbs isbAbs beqRel sbcIndy isbIndy nopZpxF4 sbcZpx incZpx isbZpx sbcAbsy isbAbsy nopAbsxFC sbcAbsx incAbsx
    isbAbsx brk undef02 php aslAcc undef0B undef12 clc nopImp1A undef22 plp rolAcc undef2B undef32 sec nopImp3A rti
    undef42 pha lsrAcc undef4B undef52 cli nopImp5A rts undef62 pla rorAcc undef6B undef72 sei nopImp7A dey txa
    undef8B undef92 undef93 tya txs undef9B undef9C undef9E undef9F tay tax undefAB undefB2 clv tsx undefBB iny dex
    undefCB undefD2 cld nopImpDA inx nop undefF2 sed nopImpFA

/-- The instruction a cell of the opcode map makes of the bytes after the opcode, as many of them as it has operand bytes
(R100). -/
def MapCell.instr (l h : Byte) : MapCell → Instr
  | .op0 i => i
  | .op1 f => f l
  | .op2 f => f l h

/-- The operand bytes a cell of the opcode map has, of the bytes after the opcode (R100, R103). -/
def MapCell.operands (l h : Byte) : MapCell → List Byte
  | .op0 _ => []
  | .op1 _ => [l]
  | .op2 _ => [l, h]

/-- What the cell of an opcode byte makes is encoded by that byte and the cell's operand bytes, and its mnemonic is the
byte's alone (R100, R111). -/
theorem mapCell_instr (op l h : Byte) :
    encode ((mapCell op).instr l h) = op :: (mapCell op).operands l h ∧
      ((mapCell op).instr l h).mnemonic = ((mapCell op).instr 0 0).mnemonic := by
  revert op
  simp only [BitVec.forall_cons_iff, BitVec.forall_zero_iff, Bool.forall_bool]
  and_intros <;> rfl

theorem opcode_mapCell (op l h : Byte) : ((mapCell op).instr l h).opcode = op :=
  (List.cons.inj (mapCell_instr op l h).1).1

/-- Every instruction is one its opcode byte's cell makes (R111). -/
theorem exists_mapCell_instr (i : Instr) : ∃ l h, (mapCell i.opcode).instr l h = i := by
  rcases opcodeCell i with ⟨hc, -⟩ | ⟨f, l, hc, hf, -⟩ | ⟨f, l, h, hc, hf, -⟩
  · exact ⟨0, 0, by rw [hc]; rfl⟩
  · exact ⟨l, 0, by rw [hc]; exact hf⟩
  · exact ⟨l, h, by rw [hc]; exact hf⟩

/-! ## Decoding and encoding (R100, R102, R103) -/

/-- The decoder takes an opcode byte's operand bytes and leaves the bytes after them. -/
theorem decode_operands (op l h : Byte) (rest : List Byte) :
    decode (op :: (mapCell op).operands l h ++ rest) = .ok ((mapCell op).instr l h, rest) := by
  cases hc : mapCell op <;>
    simp only [decode, hc, MapCell.operands, MapCell.instr, List.cons_append, List.nil_append]

/-- What decodes is an opcode byte and the operand bytes of its cell, followed by the bytes left. -/
theorem decode_eq_ok {bs rest : List Byte} {i : Instr} (hd : decode bs = .ok (i, rest)) :
    ∃ op l h, bs = op :: (mapCell op).operands l h ++ rest ∧ i = (mapCell op).instr l h := by
  match bs with
  | [] => cases hd
  | op :: tail =>
    simp only [decode] at hd
    split at hd <;> cases hd
    case h_1 hc => exact ⟨op, 0, 0, by rw [hc]; rfl, by rw [hc]; rfl⟩
    case h_2 l hc => exact ⟨op, l, 0, by rw [hc]; rfl, by rw [hc]; rfl⟩
    case h_3 l h hc => exact ⟨op, l, h, by rw [hc]; rfl, by rw [hc]; rfl⟩

/-- Settles O2: both ways through the cell of the opcode byte. -/
theorem decodeEncodeAgree : Obligations.DecodeEncodeAgree := by
  unfold Obligations.DecodeEncodeAgree
  refine ⟨fun i rest => ?_, fun bs rest i hd => ?_⟩
  · obtain ⟨l, h, hi⟩ := exists_mapCell_instr i
    rw [← hi, (mapCell_instr _ l h).1, decode_operands]
  · obtain ⟨op, l, h, rfl, rfl⟩ := decode_eq_ok hd
    rw [(mapCell_instr op l h).1]

/-- Settles O1, by running the decoder. -/
theorem sampleWordsDecode : Obligations.SampleWordsDecode := by
  unfold Obligations.SampleWordsDecode
  decide

/-! ## The kinds of opcode byte (R104, R106, R240) -/

theorem mnemonic_eq_undefined_iff (op : Byte) :
    ((mapCell op).instr 0 0).mnemonic = .undefined ↔ op ∈ undefinedBytes := by
  revert op
  decide

theorem Config.enabled_eq_true_iff (cfg : Config) (op : Byte) :
    cfg.enabled op = true ↔ op ∉ undefinedBytes ∧ (op ∈ undocumentedBytes → op ∈ cfg.undocEnabled) := by
  simp only [Config.enabled, List.contains_eq_mem, Bool.and_eq_true, Bool.not_eq_eq_eq_not, Bool.not_true,
    decide_eq_false_iff_not, Bool.or_eq_true, decide_eq_true_eq, Decidable.imp_iff_not_or]

/-- Settles O3: an instruction is one its opcode byte's cell makes, so it has the mnemonic of the byte. -/
theorem opcodeBytesAreClassified : Obligations.OpcodeBytesAreClassified := by
  unfold Obligations.OpcodeBytesAreClassified
  refine ⟨rfl, rfl, by decide, fun op => ⟨(mapCell op).instr 0 0, opcode_mapCell op 0 0, ?_⟩⟩
  rintro j rfl
  obtain ⟨l, h, hj⟩ := exists_mapCell_instr j
  have hm : j.mnemonic = ((mapCell j.opcode).instr 0 0).mnemonic := by
    rw [← (mapCell_instr j.opcode l h).2, hj]
  exact ⟨hm, by rw [hm, mnemonic_eq_undefined_iff], fun cfg => cfg.enabled_eq_true_iff j.opcode⟩

end Sys2Proof

namespace Sys2Proof.Machine

/-! ## The undefined opcode (R106, R332) -/

/-- On the CPU's turn, with no interrupt taken, the step fetches and runs an instruction, the per-step scratch cleared
(R320, R332). -/
theorem step_instruction {s : State} (hc : cpuTurn (hostCalls s)) (hi : instructionTurn (hostCalls s)) :
    step s = instructionStep (hostCalls s).beginStep := by
  obtain ⟨hf, hp, hb⟩ := hc
  obtain ⟨hr, hn, hq⟩ := hi
  have hn' : takesNmi (hostCalls s).beginStep = false := hn
  have hq' : takesIrq (hostCalls s).beginStep = false := hq
  simp only [step, hf, hp, if_pos hb, cpuStep, State.beginStep_cpu, hr, hn', hq', Bool.false_eq_true, if_false]

/-- A byte read from RAM or the cartridge that is not enabled raises, with the PC past it and no other change (R106). -/
theorem fetchInstr_of_not_enabled {s : State} {op : Byte} (hr : plainRead s s.cpu.pc = some op)
    (he : s.cfg.enabled op = false) :
    fetchInstr s = .raise (.undefinedOpcode op s.cpu.pc) (s.setPc (s.cpu.pc + 1)) := by
  have he' : (s.setPc (s.cpu.pc + 1)).cfg.enabled op = false := he
  rw [fetchInstr, fetchByte_plain hr, Res.andThen_ok, he', if_neg Bool.false_ne_true, undefinedOpcode, Res.andThen_raise,
    State.setPc_cpu_pc, BitVec.add_sub_cancel]

/-- Settles O5, by the meaning of the undefined rows and by the fetch. -/
theorem undefinedOpcodesFault : Obligations.UndefinedOpcodesFault := by
  unfold Obligations.UndefinedOpcodesFault
  refine ⟨exec_undefined, ?_⟩
  rintro s _ op rfl hc hi hr he
  have hr' : plainRead (hostCalls s).beginStep (hostCalls s).beginStep.cpu.pc = some op := hr
  rw [step_instruction hc hi, instructionStep, fetchInstr_of_not_enabled hr' he]
  rfl

end Sys2Proof.Machine

/-! SUPPORT. Pointer reads and the address of every mode (O18, O19), the stores (O44), and the cost of an instruction
(O17). -/

namespace Sys2Proof.Machine

/-! ## Pointers (R130, R131, R134) -/

theorem cat_zero_or_zext16 (h b : Byte) : cat h 0 ||| zext16 b = cat h b := by
  refine BitVec.eq_of_getLsbD_eq fun i hi => ?_
  simp only [cat, zext16, BitVec.getLsbD_or, BitVec.getLsbD_append, BitVec.getLsbD_setWidth]
  by_cases hl : i < 8
  · simp [hl, hi]
  · simp [hl, BitVec.getLsbD_of_ge b i (Nat.le_of_not_lt hl)]

/-- The next address of a page has the page's high byte (R134). -/
theorem pageNext_eq (p : Word) : pageNext p = cat (hiByte p) (loByte p + 1) :=
  (congrArg (· ||| zext16 (loByte p + 1)) (page_eq p)).trans (cat_zero_or_zext16 _ _)

/-- A page-wrapping pointer read makes its two bus accesses in order (R13, R134). -/
theorem read16Wrap_of_ok {p : Word} {s t u : State} {lo hi : Byte} (hl : memRead p s = .ok lo t)
    (hh : memRead (cat (hiByte p) (loByte p + 1)) t = .ok hi u) : read16Wrap p s = .ok (cat hi lo) u := by
  rw [read16Wrap, hl, Res.andThen_ok, pageNext_eq, hh, Res.andThen_ok]

theorem pageNext_zext16 (b : Byte) : pageNext (zext16 b) = zext16 (b + 1) := by
  revert b
  decide

theorem ramByte_zext16 (s : State) (b : Byte) : ramByte s (zext16 b) = s.ram.read b.toNat := by
  have hb := b.isLt
  rw [ramByte, ramIndex, zext16, BitVec.toNat_setWidth, Nat.mod_eq_of_lt (by omega), Nat.mod_eq_of_lt (by omega)]

/-- The address after a zero-page address is in RAM, in the zero page or at 0x0100 (R131). -/
theorem ramByte_zext16_succ (s : State) (b : Byte) : ramByte s (zext16 b + 1) = s.ram.read (b.toNat + 1) := by
  have hz : ramIndex (zext16 b + 1) = b.toNat + 1 := by
    revert b
    decide
  rw [ramByte, hz]

/-- A page-wrapping pointer in the zero page has both its bytes there (R130, R134). -/
theorem wrappedPointer_zext16 (s : State) (b : Byte) :
    wrappedPointer s (zext16 b) = cat (s.ram.read (b + 1).toNat) (s.ram.read b.toNat) := by
  rw [wrappedPointer, pageNext_zext16, ramByte_zext16, ramByte_zext16]

/-- Where the high byte of an (zp),Y pointer is: `INDY_PTR_WRAP` says (R131). -/
theorem indirectBase_eq (s : State) (a : Byte) :
    indirectBase s a =
      cat (s.ram.read (if s.cfg.indyPtrWrap = .zeroPage then (a.toNat + 1) % 256 else a.toNat + 1))
        (s.ram.read a.toNat) := by
  rw [indirectBase]
  cases s.cfg.indyPtrWrap
  · exact wrappedPointer_zext16 s a
  · rw [ramByte_zext16_succ, ramByte_zext16]
    rfl

/-- Settles O19: the next address of the pointer's page, and the two bytes of the zero page at the example's. -/
theorem pointerReadKeepsItsPage : Obligations.PointerReadKeepsItsPage := by
  unfold Obligations.PointerReadKeepsItsPage
  refine ⟨fun p s t u lo hi hl hh => read16Wrap_of_ok hl hh, fun s hl hh => ?_⟩
  have hw : wrappedPointer s (zext16 0xFF) = cat (s.ram.read 0) (s.ram.read 0xFF) := wrappedPointer_zext16 s 0xFF
  rw [hl, hh] at hw
  exact (read16Wrap_zeroPage 0xFF s).trans (congrArg (Res.ok · s) hw)

/-! ## The address of every mode (R120-R132) -/

/-- Two addresses lie in different pages exactly when their high bytes differ (R132). -/
theorem hiByte_bne (p q : Word) : (hiByte p != hiByte q) = decide (q.toNat / 256 ≠ p.toNat / 256) := by
  rw [Bool.eq_iff_iff, bne_iff_ne, decide_eq_true_iff, ← hiByte_toNat, ← hiByte_toNat, ne_comm, Ne, Ne,
    BitVec.toNat_inj]

theorem resolve_ind {l h lo hi : Byte} {s t u : State} (hl : memRead (cat h l) s = .ok lo t)
    (hh : memRead (cat h (l + 1)) t = .ok hi u) :
    resolve (.ind l h) s = .ok (.addr (cat hi lo)) (u.setCrossed false) := by
  rw [resolve, read16Wrap_of_ok hl (by rwa [hiByte_cat, loByte_cat]), Res.andThen_ok]

theorem resolve_indx (a : Byte) (s : State) :
    resolve (.indx a) s =
      .ok (.addr (cat (s.ram.read (a + s.cpu.x + 1).toNat) (s.ram.read (a + s.cpu.x).toNat))) (s.setCrossed false) := by
  rw [resolve_address rfl, wrappedPointer_zext16]
  rfl

/-- The page of an (zp),Y operand is crossed when Y carries out of the pointer's low byte (R131). -/
theorem resolve_indy {a high low : Byte} {s : State} (hb : indirectBase s a = cat high low) :
    resolve (.indy a) s =
      .ok (.addr (cat high low + zext16 s.cpu.y)) (s.setCrossed (decide (0xFF < low.toNat + s.cpu.y.toNat))) := by
  rw [resolve_address rfl, resolved, crossing, hb, loByte_cat]
  rfl

theorem resolve_rel (o : Byte) (s : State) :
    resolve (.rel o) s = .ok (.addr (s.cpu.pc + sext16 o))
      (s.setCrossed (decide ((s.cpu.pc + sext16 o).toNat / 256 ≠ s.cpu.pc.toNat / 256))) := by
  rw [resolve_address rfl, resolved, crossing, hiByte_bne]
  rfl

/-- Settles O18: a mode with an effective address resolves to it, and a jump's pointer is two reads of one page. -/
theorem operandAddresses : Obligations.OperandAddresses := by
  unfold Obligations.OperandAddresses
  refine fun s => ⟨resolve_imp s, resolve_acc s, fun b => resolve_imm b s, fun l h lo hi t u => resolve_ind,
    fun a => resolve_address (o := .zp a) rfl, fun a => resolve_address (o := .zpx a) rfl,
    fun a => resolve_address (o := .zpy a) rfl, fun l h => resolve_address (o := .abs l h) rfl,
    fun l h => resolve_address (o := .absx l h) rfl, fun l h => resolve_address (o := .absy l h) rfl,
    fun a => resolve_indx a s, ?_, fun o => resolve_rel o s⟩
  rintro a _ _ rfl rfl
  exact resolve_indy (indirectBase_eq s a)

/-! ## The stores (R136, R143-R145, R242) -/

/-- An instruction with an effective address whose action on it completes does so (R332). -/
theorem exec_eq_next {i : Instr} {s t : State} {a : Word} (ha : effectiveAddress i.operand s = some a)
    (hb : actionOf i.mnemonic (.addr a) (resolved i.operand s) = .ok () t) : exec i s = .next t := by
  have hm : i.mnemonic ≠ .undefined := fun h => by
    rw [operand_of_undefined h] at ha
    cases ha
  exact exec_of rfl hm (resolve_address ha) hb

/-- Settles O44: a store is one bus write, which completes where it is `writable`. -/
theorem stores : Obligations.Stores := by
  unfold Obligations.Stores
  intro i s a v hv ha hw
  have hw' : writable (resolved i.operand s) a v = true := hw
  obtain ⟨t, ht⟩ := memWrite_of_writable hw'
  refine ⟨t, ht, exec_eq_next ha ?_, fun hr => ?_⟩
  · rw [actionOf_store (s := resolved i.operand s) hv, storeOperand, ht]
  · rw [memWrite_ram hr] at ht
    cases ht
    rfl

/-! ## The cost of an instruction (R133, R370-R372) -/

/-- R370's cell is the same whatever the operand bytes. -/
theorem tableCost_mapCell (op l h : Byte) :
    tableCost ((mapCell op).instr l h) = tableCost ((mapCell op).instr 0 0) := by
  revert op
  simp only [BitVec.forall_cons_iff, BitVec.forall_zero_iff, Bool.forall_bool]
  and_intros <;> rfl

/-- The base cycle table holds R370's cell at each of the bytes that are not undefined. -/
theorem baseCycles_of_not_undefined (op : Byte) (h : op ∉ undefinedBytes) :
    baseCycles op = tableCost ((mapCell op).instr 0 0) := by
  revert op
  decide

theorem baseCycles_eq_tableCost {i : Instr} (h : i.mnemonic ≠ .undefined) : baseCycles i.opcode = tableCost i := by
  obtain ⟨l, k, hi⟩ := exists_mapCell_instr i
  have hop : i.opcode ∉ undefinedBytes := by
    rwa [← mnemonic_eq_undefined_iff, ← (mapCell_instr i.opcode l k).2, hi]
  rw [baseCycles_of_not_undefined _ hop, ← tableCost_mapCell _ l k, hi]

/-- The absolute indexed modes and (zp),Y, whose operands the crossing penalty is about (R133). -/
def isIndexed : Operand → Bool
  | .absx _ _ | .absy _ _ | .indy _ => true
  | _ => false

theorem isIndexed_iff (o : Operand) :
    isIndexed o = true ↔ (∃ l h, o = .absx l h) ∨ (∃ l h, o = .absy l h) ∨ (∃ a, o = .indy a) := by
  cases o <;> simp [isIndexed]

/-- The rows that have R133's base costs in the indexed modes are those that only read: a store or a read-modify-write
costs more there (R133, R370). -/
theorem hasPenalty_eq {i : Instr} (h : i.mnemonic ≠ .undefined) :
    hasPenalty i = (decide (i.mnemonic ∈ Mnemonic.nop :: readers) && isIndexed i.operand) := by
  rw [hasPenalty, baseCycles_eq_tableCost h]
  cases i <;> rfl

theorem isBranch_iff (i : Instr) : isBranch i = true ↔ ∃ o, i.operand = .rel o := by
  rw [isBranch]
  cases i.operand <;> simp

theorem bit_eq_ite {c : Bool} {p : Prop} [Decidable p] (h : c = true ↔ p) : bit c = if p then 1 else 0 :=
  ite_congr (propext h) (fun _ => rfl) fun _ => rfl

/-- The extra cycles of a branch (R372). -/
theorem branchExtra_eq (timing : BranchTiming) (i : Instr) (c : Scratch) :
    branchExtra timing i c =
      if timing = .nmos ∧ isBranch i = true ∧ c.taken = true then (if c.crossed then 2 else 1) else 0 := by
  cases timing with
  | sourceRule => rfl
  | nmos =>
    rw [branchExtra]
    cases isBranch i <;> cases c.taken <;> cases c.crossed <;> rfl

/-- Settles O17: the base cost by the table's bytes, and each extra cycle by its condition. -/
theorem costOfInstruction : Obligations.CostOfInstruction := by
  unfold Obligations.CostOfInstruction
  intro timing i c h
  refine ⟨baseCycles_eq_tableCost h, ?_⟩
  have hp : (hasPenalty i && c.crossed) = true ↔ i.mnemonic ∈ Mnemonic.nop :: readers
      ∧ ((∃ l h, i.operand = .absx l h) ∨ (∃ l h, i.operand = .absy l h) ∨ (∃ a, i.operand = .indy a))
      ∧ c.crossed = true := by
    rw [hasPenalty_eq h, Bool.and_eq_true, Bool.and_eq_true, decide_eq_true_iff, isIndexed_iff, and_assoc]
  rw [cost, baseCycles_eq_tableCost h, bit_eq_ite hp, branchExtra_eq]
  simp only [isBranch_iff]

end Sys2Proof.Machine

/-! SUPPORT. The loads (O41), the register moves (O45), and the frame of the instructions that touch registers and flags
alone (O55). -/

namespace Sys2Proof.Machine

/-! ## The loads (R135, R140-R142, R241) -/

/-- An operand that can be read resolves without a side effect, and what it resolves to loads (R120, R135). -/
theorem load_of_operandReadable {o : Operand} {s : State} (h : operandReadable o s = true) :
    ∃ r m t, resolve o s = .ok r (resolved o s) ∧ loadOperand r (resolved o s) = .ok m t ∧
      readOperand o s = .ok m t := by
  cases o
  case imp | ind => exact absurd h Bool.false_ne_true
  case acc | imm => exact ⟨_, _, _, rfl, rfl, rfl⟩
  all_goals
    obtain ⟨m, t, hm⟩ := memRead_of_readable (s := resolved _ s) h
    exact ⟨_, m, t, resolve_address rfl, hm, hm⟩

/-- A reading instruction whose operand can be read completes, with its last change from the byte read (R135, R332). -/
theorem exec_reader_of_readable {i : Instr} {s : State} (h : operandReadable i.operand s = true) :
    ∃ m t, readOperand i.operand s = .ok m t ∧
      (i.mnemonic ∈ readers → exec i s = .next (readerLast i.mnemonic m t)) := by
  obtain ⟨r, m, t, hr, hl, ho⟩ := load_of_operandReadable h
  refine ⟨m, t, ho, fun hm => ?_⟩
  have hu : i.mnemonic ≠ .undefined := fun e => absurd (e ▸ hm) (by decide)
  refine exec_of rfl hu hr ?_
  rw [actionOf_reader_eq hm, hl, Res.andThen_ok]

/-- Settles O41: a load is a reading instruction, whose last change is the byte's. -/
theorem loads : Obligations.Loads := by
  unfold Obligations.Loads
  intro i s h
  obtain ⟨m, t, hr, he⟩ := exec_reader_of_readable h
  refine ⟨m, t, hr, ?_, ?_, ?_, ?_⟩
  all_goals
    intro hi
    rw [hi] at he
    exact he (by decide)

/-! ## The instructions that touch registers and flags alone (R146-R151, R174-R177, R200-R208, R224-R231, R250) -/

/-- Only a jump has a pointer anywhere on the bus for its operand (R129). -/
theorem operand_ne_ind {i : Instr} (h : i.mnemonic ≠ .jmp) (l k : Byte) : i.operand ≠ .ind l k := by
  cases i
  case jmpInd => exact absurd rfl h
  all_goals exact Operand.noConfusion

/-- Every operand but a jump's pointer resolves, and sets `crossed` only (R120-R132). -/
theorem resolve_of_ne_ind {o : Operand} (h : ∀ l k, o ≠ .ind l k) (s : State) :
    ∃ r, resolve o s = .ok r (resolved o s) := by
  cases o
  case ind l k => exact absurd rfl (h l k)
  case imp | acc | imm => exact ⟨_, rfl⟩
  all_goals exact ⟨_, resolve_address rfl⟩

/-- What an instruction that touches registers and flags alone went through: its action on the resolved operand, in the
state with `crossed` set (R120, R332). -/
theorem exec_registerOnly {i : Instr} {s t : State} (hm : i.mnemonic ∈ registerOnly) (h : exec i s = .next t) :
    ∃ r crossed, actionOf i.mnemonic r (s.setCrossed crossed) = .ok () t := by
  have hu : i.mnemonic ≠ .undefined := fun e => absurd (e ▸ hm) (by decide)
  have hj : i.mnemonic ≠ .jmp := fun e => absurd (e ▸ hm) (by decide)
  obtain ⟨r, hr⟩ := resolve_of_ne_ind (operand_ne_ind hj) s
  rw [exec_eq i s hu, perform, hr, Res.andThen_ok, Res.toOutcome_eq_next] at h
  exact ⟨r, crossing i.operand s, h⟩

/-- A branch writes the PC and `taken` only (R200). -/
theorem branch_eq_ok {c : Bool} {r : Resolved} {s t : State} (h : branch c r s = .ok () t) :
    ∃ pc taken, t = (s.setPc pc).setTaken taken := by
  cases r <;> cases h
  case addr a => cases c <;> exact ⟨_, _, rfl⟩
  all_goals exact ⟨s.cpu.pc, s.scratch.taken, rfl⟩

/-- Settles O55, by the last change of each of the instructions: a register with N and Z, one register or flag, none, or
the PC. -/
theorem frameOfRegisterInstructions : Obligations.FrameOfRegisterInstructions := by
  unfold Obligations.FrameOfRegisterInstructions
  intro i s t hm h
  obtain ⟨r, crossed, ha⟩ := exec_registerOnly hm h
  generalize i.mnemonic = m at hm ha ⊢
  cases m
  case tax | tay | txa | tya | tsx | inx | iny | dex | dey =>
    cases ha
    exact ⟨rfl, by simp [Flags.nz]⟩
  case txs | clc | cld | cli | clv | sec | sed | sei | nop =>
    cases ha
    exact ⟨rfl, by simp⟩
  case bpl | bmi | bvc | bvs | bcc | bcs | bne | beq =>
    obtain ⟨pc, taken, rfl⟩ := branch_eq_ok ha
    exact ⟨rfl, by simp⟩
  all_goals exact absurd hm (by decide)

/-- Settles O45, by running each of the ten: `nz` is the model's `SetNZ` (R27). -/
theorem registerMoves : Obligations.RegisterMoves := by
  unfold Obligations.RegisterMoves
  intro s nz hnz
  obtain rfl : nz = s.cpu.flags.nz := funext hnz
  and_intros <;> rfl

end Sys2Proof.Machine

/-! SUPPORT. ADC and SBC (O42), the logic, compare and BIT instructions (O43), and what every read-modify-write completes
with (O48). -/

namespace Sys2Proof.Machine

/-! ## Addition with carry (R161) -/

theorem and_signBit_ne_zero (b : Byte) : ((b &&& 0x80) != 0) = b.getLsbD 7 := by
  revert b
  decide

/-- The model's overflow mask says that both addends have one sign and the result the other (R161). -/
theorem overflow_eq (a m r : Byte) :
    (((a ^^^ r) &&& (m ^^^ r) &&& 0x80) != 0) =
      decide (a.getLsbD 7 = m.getLsbD 7 ∧ r.getLsbD 7 ≠ m.getLsbD 7) := by
  rw [and_signBit_ne_zero, BitVec.getLsbD_and, BitVec.getLsbD_xor, BitVec.getLsbD_xor]
  generalize a.getLsbD 7 = p, m.getLsbD 7 = q, r.getLsbD 7 = k
  revert p q k
  decide

/-- `AddWithCarry` from the exact sum and the byte it truncates to (R161). -/
theorem addWithCarry_eq {t : State} {x r : Byte} {sum : Nat}
    (hs : sum = t.cpu.a.toNat + x.toNat + (if t.cpu.flags.c then 1 else 0)) (hr : r.toNat = sum % 256) :
    t.addWithCarry x = { t with cpu := { t.cpu with
      a := r
      flags := { t.cpu.flags with
        c := decide (255 < sum)
        v := decide (t.cpu.a.getLsbD 7 = x.getLsbD 7 ∧ r.getLsbD 7 ≠ x.getLsbD 7)
        z := decide (r = 0)
        n := r.getLsbD 7 } } } := by
  have hsum : adcSum t.cpu.a x t.cpu.flags.c = sum := hs.symm
  have hres : adcResult t.cpu.a x t.cpu.flags.c = r := by
    rw [adcResult, hsum]
    exact BitVec.eq_of_toNat_eq ((BitVec.toNat_ofNat _ _).trans hr.symm)
  rw [State.addWithCarry, Flags.adc, hres, hsum, overflow_eq]
  rfl

/-- Settles O42: ADC and SBC are reading instructions whose last change is `AddWithCarry` of the byte or its complement. -/
theorem addAndSubtract : Obligations.AddAndSubtract := by
  unfold Obligations.AddAndSubtract
  intro i s h
  obtain ⟨m, t, hr, he⟩ := exec_reader_of_readable h
  refine ⟨m, t, hr, ?_⟩
  rintro x r sum (⟨hi, rfl⟩ | ⟨hi, rfl⟩) hs hsum
  all_goals
    rw [hi] at he
    rw [he (by decide), ← addWithCarry_eq hs hsum]
  · rfl
  · rw [show (0xFF - m : Byte) = ~~~m from BitVec.allOnes_sub_eq_not m]
    rfl

/-! ## Logic, compare and BIT (R162, R165-R171) -/

/-- The bitwise operations are determined bit by bit (R165-R167). -/
theorem eq_of_bitwise {f : Bool → Bool → Bool} {op : Byte → Byte → Byte} {a m r : Byte}
    (hop : ∀ k, (op a m).getLsbD k = f (a.getLsbD k) (m.getLsbD k))
    (hr : ∀ k, r.getLsbD k = f (a.getLsbD k) (m.getLsbD k)) : r = op a m :=
  BitVec.eq_of_getLsbD_eq fun k _ => (hr k).trans (hop k).symm

/-- Settles O43: each is a reading instruction, whose last change takes its result from the byte read. -/
theorem logicCompareBit : Obligations.LogicCompareBit := by
  unfold Obligations.LogicCompareBit
  intro i s h
  obtain ⟨m, t, hr, he⟩ := exec_reader_of_readable h
  refine ⟨m, t, hr, ?_, ?_, fun hi => ?_⟩
  · rintro r (⟨hi, hb⟩ | ⟨hi, hb⟩ | ⟨hi, hb⟩)
    all_goals rw [hi] at he
    · obtain rfl : r = t.cpu.a &&& m := eq_of_bitwise (fun _ => BitVec.getLsbD_and) hb
      exact he (by decide)
    · obtain rfl : r = t.cpu.a ||| m := eq_of_bitwise (fun _ => BitVec.getLsbD_or) hb
      exact he (by decide)
    · obtain rfl : r = t.cpu.a ^^^ m := eq_of_bitwise (fun _ => BitVec.getLsbD_xor) hb
      exact he (by decide)
  · rintro r (⟨hi, rfl⟩ | ⟨hi, rfl⟩ | ⟨hi, rfl⟩)
    all_goals
      rw [hi] at he
      exact he (by decide)
  · rw [hi] at he
    exact he (by decide)

/-! ## Read-modify-write on memory (R190) -/

/-- A read-modify-write instruction whose read and write are accepted completes, with its result, its carry and its last
change (R190). -/
theorem rmwTo_of_modifier {i : Instr} (hm : i.mnemonic ∈ modifiers) (s : State) :
    RmwTo i s (rmwResult i.mnemonic s.cpu.flags.c) (rmwCarry i.mnemonic s.cpu.flags.c) (rmwLast i.mnemonic) := by
  intro a ha hrw
  rw [rmwReady] at hrw
  cases hr : memRead a (resolved i.operand s) with
  | raise k t => rw [hr] at hrw; cases hrw
  | ok m t =>
    rw [hr] at hrw
    have hc : t.cpu.flags.c = s.cpu.flags.c := by rw [(memRead_frame hr).2.1]; rfl
    obtain ⟨u, hu⟩ := memWrite_of_writable (s := t.setC (rmwCarry i.mnemonic s.cpu.flags.c m)) hrw
    refine ⟨m, t, u, rfl, hu, exec_eq_next ha ?_⟩
    rw [actionOf_modifier hm, rmw, loadOperand, hr, Res.andThen_ok, hc, storeOperand, hu, Res.andThen_ok]

/-- Settles O48: the three are read-modify-write instructions. -/
theorem incrementAndDecrement : Obligations.IncrementAndDecrement := by
  unfold Obligations.IncrementAndDecrement
  intro i s
  refine ⟨?_, ?_, ?_⟩
  all_goals
    intro hi
    have h := rmwTo_of_modifier (i := i) (s := s)
    rw [hi] at h
    exact h (by decide)

end Sys2Proof.Machine

/-! SUPPORT. The decimal flag is inert (O59): every bus access, operand and action but those that write D or push the status
does the same with another D. -/

namespace Sys2Proof.Machine

/-- The answer of an action with the D flag of its state set to `d`. -/
def resWithD {α : Type} (d : Bool) : Res α → Res α
  | .ok a t => .ok a (withD d t)
  | .raise k t => .raise k (withD d t)

/-- D is inert for an action: from a state with another D it does the same, with that other D (R178). -/
def DInert {α : Type} (f : State → Res α) : Prop := ∀ d s, f (withD d s) = resWithD d (f s)

@[simp] theorem withD_cfg (d : Bool) (s : State) : (withD d s).cfg = s.cfg := rfl
@[simp] theorem withD_cart (d : Bool) (s : State) : (withD d s).cart = s.cart := rfl
@[simp] theorem withD_ppu (d : Bool) (s : State) : (withD d s).ppu = s.ppu := rfl

section
variable {α β : Type}

theorem resWithD_andThen {f : α → State → Res β} (hf : ∀ a, DInert (f a)) (d : Bool) (r : Res α) :
    (resWithD d r).andThen f = resWithD d (r.andThen f) := by
  cases r with
  | ok a t => exact hf a d t
  | raise k t => rfl

theorem DInert.andThen {f : State → Res α} {g : α → State → Res β} (hf : DInert f) (hg : ∀ a, DInert (g a)) :
    DInert fun s => (f s).andThen g :=
  fun d s => (congrArg (Res.andThen · g) (hf d s)).trans (resWithD_andThen hg d (f s))

/-- A choice that does not depend on the state. -/
theorem DInert.ite {c : Prop} [Decidable c] {f g : State → Res α} (hf : DInert f) (hg : DInert g) :
    DInert fun s => if c then f s else g s := by
  by_cases hc : c
  · simpa only [if_pos hc] using hf
  · simpa only [if_neg hc] using hg

theorem forEach_dInert {f : α → State → Res Unit} (hf : ∀ x, DInert (f x)) (xs : List α) : DInert (forEach xs f) := by
  induction xs with
  | nil => exact fun _ _ => rfl
  | cons x xs ih => exact (hf x).andThen fun _ => ih

end

/-! ## The buses -/

theorem externalRead_dInert (answer : Option Byte) (k : FaultKind) : DInert (externalRead answer k) := by
  cases answer <;> exact fun _ _ => rfl

theorem externalWrite_dInert (answer : Option Nat) (k : FaultKind) : DInert (externalWrite answer k) := by
  cases answer <;> exact fun _ _ => rfl

theorem cartCpuRead_dInert (a : Word) : DInert (cartCpuRead a) := by
  intro d s
  simp only [cartCpuRead, withD_cfg]
  cases s.cfg.cart
  · exact DInert.ite (fun _ _ => rfl) (fun _ _ => rfl) d s
  · exact externalRead_dInert _ _ d s

theorem cartChrRead_dInert (a : Word) : DInert (cartChrRead a) := by
  intro d s
  simp only [cartChrRead, withD_cfg]
  cases s.cfg.cart
  · rfl
  · exact externalRead_dInert _ _ d s

theorem cartNtRead_dInert (a : Word) : DInert (cartNtRead a) := by
  intro d s
  simp only [cartNtRead, withD_cfg]
  cases s.cfg.cart
  · rfl
  · exact externalRead_dInert _ _ d s

theorem cartCpuWrite_dInert (a : Word) (v : Byte) : DInert (cartCpuWrite a v) := by
  intro d s
  simp only [cartCpuWrite, withD_cfg]
  cases s.cfg.cart
  · cases s.cfg.prgWrite <;> exact DInert.ite (fun _ _ => rfl) (fun _ _ => rfl) d s
  · exact externalWrite_dInert _ _ d s

theorem cartChrWrite_dInert (a : Word) (v : Byte) : DInert (cartChrWrite a v) := by
  intro d s
  simp only [cartChrWrite, withD_cfg]
  cases s.cfg.cart
  · cases s.cfg.chrWrite <;> rfl
  · exact externalWrite_dInert _ _ d s

theorem cartNtWrite_dInert (a : Word) (v : Byte) : DInert (cartNtWrite a v) := by
  intro d s
  simp only [cartNtWrite, withD_cfg]
  cases s.cfg.cart
  · rfl
  · exact externalWrite_dInert _ _ d s

theorem ppuReadLow_dInert (a : Word) : DInert (ppuReadLow a) :=
  (cartChrRead_dInert a).ite ((cartNtRead_dInert a).ite fun _ _ => rfl)

theorem ppuWriteLow_dInert (a : Word) (v : Byte) : DInert (ppuWriteLow a v) :=
  (cartChrWrite_dInert a v).ite ((cartNtWrite_dInert a v).ite fun _ _ => rfl)

theorem ppuRead_dInert (a : Word) : DInert (ppuRead a) := by
  intro d s
  simp only [ppuRead, withD_cfg]
  cases s.cfg.ppuAddrHigh
  · exact DInert.ite (fun _ _ => rfl) (ppuReadLow_dInert a) d s
  · exact (ppuReadLow_dInert _).ite (ppuReadLow_dInert a) d s

theorem ppuWrite_dInert (a : Word) (v : Byte) : DInert (ppuWrite a v) := by
  intro d s
  simp only [ppuWrite, withD_cfg]
  cases s.cfg.ppuAddrHigh
  · exact DInert.ite (fun _ _ => rfl) (ppuWriteLow_dInert a v) d s
  · exact (ppuWriteLow_dInert _ v).ite (ppuWriteLow_dInert a v) d s

theorem ppuDataFetch_dInert (a : Word) : DInert (ppuDataFetch a) := by
  intro d s
  simp only [ppuDataFetch, withD_ppu]
  split
  · refine (ppuRead_dInert a).andThen (fun r d t => ?_) d s
    simp only [withD_cfg]
    cases t.cfg.palReadBuffer
    · rfl
    · exact (ppuRead_dInert _).andThen (fun _ _ _ => rfl) d t
  · exact (ppuRead_dInert a).andThen (fun _ _ _ => rfl) d s

theorem ppuDataRead_dInert : DInert ppuDataRead := by
  intro d s
  simp only [ppuDataRead, withD_cfg, withD_ppu]
  exact DInert.ite (fun _ _ => rfl) ((ppuDataFetch_dInert _).andThen fun _ _ _ => rfl) d s

theorem ppuRegRead_dInert (r : PpuReg) : DInert (ppuRegRead r) := by
  cases r
  case data => exact ppuDataRead_dInert
  all_goals exact fun _ _ => rfl

theorem ppuRegWrite_dInert (r : PpuReg) (v : Byte) : DInert (ppuRegWrite r v) := by
  cases r
  case data => exact fun d s => (ppuWrite_dInert s.ppu.busAddress v).andThen (fun _ _ _ => rfl) d s
  all_goals exact fun _ _ => rfl

theorem memRead_dInert (a : Word) : DInert (memRead a) := by
  have same : DInert fun s => .ok (0 : Byte) s := fun _ _ => rfl
  exact DInert.ite (fun _ _ => rfl) <| (ppuRegRead_dInert _).ite <| same.ite <| same.ite <|
    DInert.ite (f := ctlRead) (fun _ _ => rfl) <| DInert.ite (fun _ _ => rfl) (cartCpuRead_dInert a)

theorem oamDma_dInert (page : Byte) : DInert (oamDma page) :=
  (forEach_dInert (fun _ => (memRead_dInert _).andThen fun _ _ _ => rfl) _).andThen fun _ _ _ => rfl

theorem memWrite_dInert (a : Word) (v : Byte) : DInert (memWrite a v) :=
  DInert.ite (fun _ _ => rfl) <| (ppuRegWrite_dInert _ v).ite <| DInert.ite (fun _ _ => rfl) <| (oamDma_dInert v).ite <|
    DInert.ite (f := ctlWrite v) (fun _ _ => rfl) <| DInert.ite (fun _ _ => rfl) (cartCpuWrite_dInert a v)

/-! ## Operands -/

theorem read16Wrap_dInert (p : Word) : DInert (read16Wrap p) :=
  (memRead_dInert p).andThen fun _ => (memRead_dInert _).andThen fun _ _ _ => rfl

theorem effectiveAddress_withD (o : Operand) (d : Bool) (s : State) :
    effectiveAddress o (withD d s) = effectiveAddress o s := by
  cases o <;> rfl

theorem resolved_withD (o : Operand) (d : Bool) (s : State) : resolved o (withD d s) = withD d (resolved o s) := by
  cases o <;> rfl

theorem resolve_dInert (o : Operand) : DInert (resolve o) := by
  intro d s
  cases ea : effectiveAddress o s with
  | some a =>
    rw [resolve_address ea, resolve_address ((effectiveAddress_withD o d s).trans ea), resolved_withD]
    rfl
  | none =>
    cases o
    case imp | acc | imm => rfl
    case ind l h => exact (read16Wrap_dInert _).andThen (fun _ _ _ => rfl) d s
    all_goals exact absurd ea (Option.some_ne_none _)

theorem loadOperand_dInert (r : Resolved) : DInert (loadOperand r) := by
  cases r
  case addr a => exact memRead_dInert a
  all_goals exact fun _ _ => rfl

theorem storeOperand_dInert (r : Resolved) (v : Byte) : DInert (storeOperand r v) := by
  cases r
  case addr a => exact memWrite_dInert a v
  all_goals exact fun _ _ => rfl

/-! ## Actions -/

theorem readerLast_withD (m : Mnemonic) (b : Byte) (d : Bool) (t : State) :
    readerLast m b (withD d t) = withD d (readerLast m b t) := by
  cases m <;> rfl

theorem rmwLast_withD (m : Mnemonic) (b : Byte) (d : Bool) (t : State) :
    rmwLast m b (withD d t) = withD d (rmwLast m b t) := by
  cases m <;> rfl

theorem reader_dInert {m : Mnemonic} (h : m ∈ readers) (r : Resolved) : DInert (actionOf m r) := by
  rw [show actionOf m r = _ from funext (actionOf_reader_eq h r)]
  exact (loadOperand_dInert r).andThen fun b d t => congrArg (Res.ok ()) (readerLast_withD m b d t)

theorem modifier_dInert {m : Mnemonic} (h : m ∈ modifiers) (r : Resolved) : DInert (actionOf m r) := by
  rw [actionOf_modifier h]
  refine (loadOperand_dInert r).andThen fun b d t => ?_
  have last : ∀ x, DInert fun u => .ok () (rmwLast m x u) := fun x d u => congrArg (Res.ok ()) (rmwLast_withD m x d u)
  exact (storeOperand_dInert r _).andThen (fun _ => last _) d (t.setC (rmwCarry m t.cpu.flags.c b))

theorem branch_dInert (c : Bool) (r : Resolved) : DInert (branch c r) := by
  cases r
  case addr a => cases c <;> exact fun _ _ => rfl
  all_goals exact fun _ _ => rfl

theorem jmp_dInert (r : Resolved) : DInert (jmp r) := by
  cases r <;> exact fun _ _ => rfl

theorem push_dInert (v : Byte) : DInert (push v) := by
  intro d s
  rw [push_eq, push_eq]
  rfl

theorem pull_dInert : DInert pull := by
  intro d s
  rw [pull_eq, pull_eq]
  rfl

theorem pushWord_dInert (w : Word) : DInert (pushWord w) :=
  fun d s => (push_dInert _).andThen (fun _ => push_dInert _) d s

theorem pullWord_dInert : DInert pullWord :=
  pull_dInert.andThen fun _ => pull_dInert.andThen fun _ _ _ => rfl

/-- Every action but those that write D and those that push the status is blind to it (R178). -/
theorem actionOf_dInert {m : Mnemonic} (h : m ∉ [.sed, .cld, .plp, .rti, .php, .brk]) (r : Resolved) :
    DInert (actionOf m r) := by
  cases m
  case sed | cld | plp | rti | php | brk => exact absurd (by decide) h
  case lda | ldx | ldy | lax | adc | sbc | and | ora | eor | cmp | cpx | cpy | bit => exact reader_dInert (by decide) r
  case asl | lsr | rol | ror | inc | dec | slo | rla | sre | rra | dcp | isb => exact modifier_dInert (by decide) r
  case sta | stx | sty | sax => exact fun d s => storeOperand_dInert r _ d s
  case bpl | bmi | bvc | bvs | bcc | bcs | bne | beq => exact fun d s => branch_dInert _ r d s
  case jmp => exact jmp_dInert r
  case jsr => exact fun d s => (pushWord_dInert _).andThen (fun _ => jmp_dInert r) d s
  case rts => exact pullWord_dInert.andThen fun _ _ _ => rfl
  case pha => exact fun d s => push_dInert _ d s
  case pla => exact pull_dInert.andThen fun _ _ _ => rfl
  all_goals exact fun _ _ => rfl

theorem toOutcome_resWithD (d : Bool) (r : Res Unit) : (resWithD d r).toOutcome = outcomeWithD d r.toOutcome := by
  cases r <;> rfl

theorem exec_withD {i : Instr} (h : i.mnemonic ∉ [.sed, .cld, .plp, .rti, .php, .brk]) (d : Bool) (s : State) :
    exec i (withD d s) = outcomeWithD d (exec i s) := by
  by_cases hu : i.mnemonic = .undefined
  · rw [exec_undefined i _ hu, exec_undefined i _ hu]
    rfl
  · have hp : DInert fun s => (resolve i.operand s).andThen (actionOf i.mnemonic) :=
      (resolve_dInert i.operand).andThen (actionOf_dInert h)
    rw [exec_eq i _ hu, exec_eq i _ hu, perform, perform, ← toOutcome_resWithD]
    exact congrArg Res.toOutcome (hp d s)

/-! ## The status byte and its writers (R24, R25) -/

theorem bitByte_getLsbD (c : Bool) (k : Nat) : (bitByte c).getLsbD k = (decide (k = 0) && c) := by
  cases c <;> simp [bitByte]

/-- `Pack(b)` bit by bit (R24). -/
theorem pack_getLsbD (f : Flags) (b : Bool) (k : Nat) : (f.pack b).getLsbD k = statusBit f b k := by
  simp only [Flags.pack, BitVec.getLsbD_or, BitVec.getLsbD_shiftLeft, bitByte_getLsbD]
  match k with
  | 0 | 1 | 2 | 3 | 4 | 5 | 6 | 7 => simp [statusBit]
  | k + 8 => simp [statusBit]

/-- The D flag is bit 3 of the status byte and no other (R24). -/
theorem statusBit_d (f : Flags) (d b : Bool) {k : Nat} (hk : k ≠ 3) :
    statusBit { f with d := d } b k = statusBit f b k := by
  match k with
  | 0 | 1 | 2 | 4 | 5 | 6 | 7 => rfl
  | 3 => exact absurd rfl hk
  | k + 8 => rfl

/-- The instructions that pull the status load D from bit 3 of the byte above S (R25, R212, R223). -/
theorem d_of_pulled {i : Instr} {s t : State} (hm : i.mnemonic = .plp ∨ i.mnemonic = .rti) (h : exec i s = .next t) :
    t.cpu.flags.d = (s.ram.read (0x100 + (s.cpu.sp + 1).toNat)).getLsbD 3 := by
  have hs : i.mnemonic ∈ stackUsers := by rcases hm with hm | hm <;> rw [hm] <;> decide
  obtain ⟨r, ha⟩ := exec_stackUser hs h
  rcases hm with hm | hm <;> rw [hm] at ha
  · simp only [actionOf, plp, pull_eq, Res.andThen_ok, ramByte, ramIndex_stackAddress] at ha
    cases ha
    rfl
  · simp only [actionOf, rti, returnFromInterrupt_eq, ramByte, ramIndex_stackAddress] at ha
    cases ha
    rfl

/-- Settles O59: D is inert for every action but the six, and what the six do with it. -/
theorem decimalFlagIsInert : Obligations.DecimalFlagIsInert := by
  unfold Obligations.DecimalFlagIsInert
  refine ⟨fun i d s h => exec_withD h d s, fun s t => ⟨fun h => ?_, fun h => ?_, ?_⟩, fun f b d => ⟨?_, fun k hk => ?_⟩⟩
  · obtain ⟨rfl⟩ : Host.Outcome.next _ = Host.Outcome.next t := h
    rfl
  · obtain ⟨rfl⟩ : Host.Outcome.next _ = Host.Outcome.next t := h
    rfl
  · rintro (h | h)
    · exact d_of_pulled (.inl rfl) h
    · exact d_of_pulled (.inr rfl) h
  · exact pack_getLsbD f b 3
  · rw [pack_getLsbD, pack_getLsbD, statusBit_d f d b hk]

end Sys2Proof.Machine

/-! SUPPORT. The shifts and rotates on A and on memory (O47), and the combined read-modify-writes (O49). -/

namespace Sys2Proof.Machine

/-! ## The shifts and rotates, bit by bit (R191-R194) -/

theorem rmwResult_asl_getLsbD (c : Bool) (m : Byte) (k : Nat) :
    (rmwResult .asl c m).getLsbD k = (decide (0 < k ∧ k < 8) && m.getLsbD (k - 1)) := by
  rw [rmwResult, BitVec.getLsbD_shiftLeft]
  cases k <;> simp

theorem rmwResult_lsr_getLsbD (c : Bool) (m : Byte) (k : Nat) :
    (rmwResult .lsr c m).getLsbD k = m.getLsbD (k + 1) := by
  rw [rmwResult, BitVec.getLsbD_ushiftRight, Nat.add_comm]

/-- The bit rotated in on the right is C alone, the others are the left shift's (R193). -/
theorem rmwResult_rol_getLsbD (c : Bool) (m : Byte) (k : Nat) :
    (rmwResult .rol c m).getLsbD k = if k = 0 then c else (decide (k < 8) && m.getLsbD (k - 1)) := by
  have low : (if c then 1 else 0 : Byte).getLsbD k = (decide (k = 0) && c) := bitByte_getLsbD c k
  rw [rmwResult, BitVec.getLsbD_or, BitVec.getLsbD_shiftLeft, low]
  cases k <;> simp

/-- The bit rotated in on the left is C alone, the others are the right shift's (R194). -/
theorem rmwResult_ror_getLsbD (c : Bool) (m : Byte) (k : Nat) :
    (rmwResult .ror c m).getLsbD k = if k = 7 then c else m.getLsbD (k + 1) := by
  rw [rmwResult, ← rorResult_eq, rorResult, BitVec.getLsbD_or, BitVec.getLsbD_ushiftRight, BitVec.getLsbD_shiftLeft,
    bitByte_getLsbD, Nat.add_comm]
  obtain h | rfl | h := Nat.lt_trichotomy k 7
  · simp [h, Nat.ne_of_lt h]
  · simp
  · simp [Nat.ne_of_gt h, show ¬ k < 8 by omega]

/-! ## The shifts and rotates complete (R190) -/

/-- The mnemonics that shift or rotate their operand and change nothing else but C, Z and N. -/
def plainShifts : List Mnemonic := [.asl, .lsr, .rol, .ror]

theorem plainShifts_subset_modifiers : plainShifts ⊆ modifiers := by decide

theorem rmwLast_plainShift {m : Mnemonic} (h : m ∈ plainShifts) : rmwLast m = fun b t => t.setNZ b := by
  cases m
  case asl | lsr | rol | ror => rfl
  all_goals exact absurd h (by decide)

/-- A read-modify-write of A completes from every state: C, then A, then the last change (R190). -/
theorem exec_modifier_acc {i : Instr} (hm : i.mnemonic ∈ modifiers) (ho : i.operand = .acc) (s : State) :
    exec i s = .next (rmwLast i.mnemonic (rmwResult i.mnemonic s.cpu.flags.c s.cpu.a)
      (((resolved .acc s).setC (rmwCarry i.mnemonic s.cpu.flags.c s.cpu.a)).setA
        (rmwResult i.mnemonic s.cpu.flags.c s.cpu.a))) := by
  have hu : i.mnemonic ≠ .undefined := fun e => absurd (e ▸ hm) (by decide)
  refine exec_of rfl hu (ho ▸ resolve_acc s) ?_
  rw [actionOf_modifier hm, ho]
  rfl

/-- A shift or rotate completes on A from every state, and on memory wherever the read and the write are accepted, with Z
and N from the byte written; its result is the one function with the bits of `rmwResult` (R190-R194). -/
theorem plainShift_completes {i : Instr} {op : Mnemonic} (hop : op ∈ plainShifts) (hi : i.mnemonic = op) (s : State)
    {result : Byte → Byte} {carry : Byte → Bool}
    (hr : ∀ m k, (result m).getLsbD k = (rmwResult op s.cpu.flags.c m).getLsbD k)
    (hc : ∀ m, carry m = rmwCarry op s.cpu.flags.c m) :
    (i.operand = .acc → exec i s =
      .next ((((resolved .acc s).setC (carry s.cpu.a)).setA (result s.cpu.a)).setNZ (result s.cpu.a))) ∧
    RmwTo i s result carry fun r u => u.setNZ r := by
  subst hi
  obtain rfl : result = rmwResult i.mnemonic s.cpu.flags.c :=
    funext fun m => BitVec.eq_of_getLsbD_eq fun k _ => hr m k
  obtain rfl : carry = rmwCarry i.mnemonic s.cpu.flags.c := funext hc
  have hm : i.mnemonic ∈ modifiers := plainShifts_subset_modifiers hop
  rw [← rmwLast_plainShift hop]
  refine ⟨fun ho => ?_, rmwTo_of_modifier hm s⟩
  rw [exec_modifier_acc hm ho, rmwLast_plainShift hop]

/-- Settles O47: each is a shift or rotate, and the bits given are those of its result. -/
theorem shifts : Obligations.Shifts := by
  unfold Obligations.Shifts
  rintro i s result carry (⟨hi, hb, hc⟩ | ⟨hi, hb, hc⟩ | ⟨hi, hb, hc⟩ | ⟨hi, hb, hc⟩)
  · exact plainShift_completes (by decide) hi s (fun m k => (hb m k).trans (rmwResult_asl_getLsbD _ m k).symm) hc
  · exact plainShift_completes (by decide) hi s (fun m k => (hb m k).trans (rmwResult_lsr_getLsbD _ m k).symm) hc
  · exact plainShift_completes (by decide) hi s (fun m k => (hb m k).trans (rmwResult_rol_getLsbD _ m k).symm) hc
  · exact plainShift_completes (by decide) hi s (fun m k => (hb m k).trans (rmwResult_ror_getLsbD _ m k).symm) hc

/-! ## The combined read-modify-writes (R245-R249) -/

/-- The last change of ISB subtracts: it adds the complement of the byte written (R164, R245). -/
theorem rmwLast_isb : rmwLast .isb = fun r u => u.addWithCarry (0xFF - r) :=
  funext fun r => funext fun u => congrArg u.addWithCarry (BitVec.allOnes_sub_eq_not r).symm

/-- Settles O49: the five are read-modify-write instructions, each with its last change. -/
theorem combinedModifiers : Obligations.CombinedModifiers := by
  unfold Obligations.CombinedModifiers
  intro i s
  have completes {op : Mnemonic} (hop : op ∈ modifiers) (hi : i.mnemonic = op) :
      RmwTo i s (rmwResult op s.cpu.flags.c) (rmwCarry op s.cpu.flags.c) (rmwLast op) := by
    subst hi
    exact rmwTo_of_modifier hop s
  refine ⟨?slo, ?rla, ?sre, ?isb, ?rra⟩
  case isb =>
    rw [← rmwLast_isb]
    exact completes (by decide)
  all_goals exact completes (by decide)

end Sys2Proof.Machine

/-! SUPPORT. The branches (O50), JMP, JSR and RTS (O51), BRK and RTI (O53). -/

namespace Sys2Proof.Machine

/-! ## The branches (R132, R200-R208) -/

/-- The target of a branch is the next instruction's address plus the signed offset, mod 65536 (R132, R200). -/
theorem eq_relTarget {pc target : Word} {o : Byte} (h : (target.toNat : Int) = (pc.toNat + o.toInt) % 65536) :
    target = pc + sext16 o := by
  apply BitVec.eq_of_toInt_eq
  calc target.toInt
    _ = ((pc.toNat + o.toInt) % (2 ^ 16 : Nat)).bmod (2 ^ 16) := by rw [BitVec.toInt_eq_toNat_bmod, h]; rfl
    _ = (pc.toNat + o.toInt).bmod (2 ^ 16) := Int.emod_bmod _ _
    _ = (pc.toInt + o.toInt).bmod (2 ^ 16) := by rw [BitVec.toInt_eq_toNat_bmod pc, Int.bmod_add_bmod]
    _ = (pc + sext16 o).toInt := by rw [BitVec.toInt_add, sext16, BitVec.toInt_signExtend_of_le (by decide)]

theorem branch_addr (c : Bool) (target : Word) (s : State) :
    branch c (.addr target) s = .ok () ((s.setPc (if c then target else s.cpu.pc)).setTaken c) := by
  cases c <;> rfl

/-- An instruction whose action is a branch completes, taken or not (R200). -/
theorem exec_branch {i : Instr} {o : Byte} {c : Bool} {s : State} (ho : i.operand = .rel o)
    (hb : ∀ r, actionOf i.mnemonic r (resolved (.rel o) s) = branch c r (resolved (.rel o) s)) :
    exec i s = .next (((resolved (.rel o) s).setPc (if c then s.cpu.pc + sext16 o else s.cpu.pc)).setTaken c) :=
  exec_eq_next (by rw [ho]; rfl) (by rw [ho, hb]; exact branch_addr c _ _)

/-- Settles O50: each of the eight is a branch on its own condition, and the target given is the operand's. -/
theorem branches : Obligations.Branches := by
  unfold Obligations.Branches
  intro i o c s hi target ht
  obtain rfl := eq_relTarget ht
  rw [← hiByte_bne]
  rcases hi with ⟨rfl, rfl⟩ | ⟨rfl, rfl⟩ | ⟨rfl, rfl⟩ | ⟨rfl, rfl⟩ | ⟨rfl, rfl⟩ | ⟨rfl, rfl⟩ | ⟨rfl, rfl⟩ | ⟨rfl, rfl⟩
  all_goals exact exec_branch rfl fun _ => rfl

/-! ## The pointer of a jump (R74, R129, R134) -/

/-- A read of any address but Data's leaves the VRAM address alone (R74). -/
theorem memRead_vram_eq {a : Word} {s t : State} {b : Byte} (h : memRead a s = .ok b t) (ha : a.toNat % 8 ≠ 7) :
    t.ppu.v = s.ppu.v := by
  rcases readFrame a b s t h with ⟨-, -, -, e⟩ | ⟨-, -, hd, -⟩ | ⟨-, e⟩ | rfl
  · rw [e]
  · exact absurd hd ha
  · rw [e]
  · rfl

/-- Which reads answer depends on the parameters, the cartridge and, for Data, the VRAM address (R61, R82, R84). -/
theorem readable_congr {s t : State} {a : Word} (hc : t.cfg = s.cfg) (hk : t.cart = s.cart)
    (hv : a.toNat % 8 = 7 → t.ppu.v = s.ppu.v) : readable t a = readable s a := by
  have hd : (if a.toNat % 8 = 7 then dataReadable t t.ppu.v else true) =
      if a.toNat % 8 = 7 then dataReadable s s.ppu.v else true :=
    ite_congr rfl (fun h => by rw [hv h, dataReadable_congr hc hk]) fun _ => rfl
  rw [readable, readable, hd, cartReadable_congr hc hk]

/-- A read leaves readable what was, but for another read of the same PPU register: Data's moves the VRAM address (R61,
R74). -/
theorem readable_after_read {a a' : Word} {s t : State} {b : Byte} (h : memRead a s = .ok b t)
    (ha : a.toNat % 8 ≠ a'.toNat % 8) : readable t a' = readable s a' := by
  obtain ⟨f, -, -, -, hk⟩ := memRead_frame h
  exact readable_congr f.cfg hk fun h7 => memRead_vram_eq h (h7 ▸ ha)

/-- The two bytes of a page-wrapping pointer are not at mirrors of one PPU register (R63, R134). -/
theorem cat_mod_eight_ne (h l : Byte) : (cat h l).toNat % 8 ≠ (cat h (l + 1)).toNat % 8 := by
  have := BitVec.toNat_add l 1
  have h1 : (1 : Byte).toNat = 1 := rfl
  rw [cat_toNat, cat_toNat]
  omega

/-- JMP indirect completes where both bytes of its pointer can be read (R129, R134, R209). -/
theorem exec_jmpInd_of_readable {l h : Byte} {s : State} (hl : readable s (cat h l) = true)
    (hh : readable s (cat h (l + 1)) = true) :
    ∃ lo hi t u, memRead (cat h l) s = .ok lo t ∧ memRead (cat h (l + 1)) t = .ok hi u ∧
      exec (.jmpInd l h) s = .next ((u.setCrossed false).setPc (cat hi lo)) := by
  obtain ⟨lo, t, hlo⟩ := memRead_of_readable hl
  rw [← readable_after_read hlo (cat_mod_eight_ne h l)] at hh
  obtain ⟨hi, u, hhi⟩ := memRead_of_readable hh
  exact ⟨lo, hi, t, u, hlo, hhi, exec_of (m := .jmp) rfl (by decide) (resolve_ind hlo hhi) rfl⟩

/-! ## Calls and returns (R209-R211) -/

/-- The next state of a JSR (R210). -/
def State.called (s : State) (target : Word) : State :=
  ((s.setRam ((s.ram.write (0x100 + s.cpu.sp.toNat) (hiByte (s.cpu.pc - 1))).write
    (0x100 + (s.cpu.sp - 1).toNat) (loByte (s.cpu.pc - 1)))).setSp (s.cpu.sp - 2)).setPc target

/-- The next state of an RTS (R211). -/
def State.returned (s : State) : State :=
  (s.setSp (s.cpu.sp + 2)).setPc
    (cat (s.ram.read (0x100 + (s.cpu.sp + 2).toNat)) (s.ram.read (0x100 + (s.cpu.sp + 1).toNat)) + 1)

theorem jsr_addr (target : Word) (s : State) : jsr (.addr target) s = .ok () (s.called target) := by
  rw [jsr, pushWord_eq, ramIndex_stackAddress, ramIndex_stackAddress, sub_one_sub_one]
  rfl

theorem rts_eq (r : Resolved) (s : State) : rts r s = .ok () s.returned := by
  rw [rts, pullWord_eq, ramByte, ramByte, ramIndex_stackAddress, ramIndex_stackAddress, add_one_add_one]
  rfl

theorem exec_jsrAbs (l h : Byte) (s : State) :
    exec (.jsrAbs l h) s = .next ((resolved (.abs l h) s).called (cat h l)) :=
  exec_eq_next (a := cat h l) rfl (jsr_addr _ _)

theorem exec_rts (s : State) : exec .rts s = .next (resolved .imp s).returned :=
  exec_of (m := .rts) rfl (by decide) (resolve_imp s) (rts_eq .none _)

/-- A return from a call comes back to the next instruction, with S restored: the two bytes of the return address are
apart, also where S wraps (R210, R211). -/
theorem called_returned (s : State) (target : Word) :
    (s.called target).returned.cpu.pc = s.cpu.pc ∧ (s.called target).returned.cpu.sp = s.cpu.sp := by
  have hsp : s.cpu.sp - 2 + 2 = s.cpu.sp := BitVec.sub_add_cancel _ _
  have hsp' : s.cpu.sp - 2 + 1 = s.cpu.sp - 1 := by bv_omega
  have hne : 0x100 + s.cpu.sp.toNat ≠ 0x100 + (s.cpu.sp - 1).toNat := by bv_omega
  refine ⟨?_, hsp⟩
  change cat ((s.called target).ram.read (0x100 + (s.cpu.sp - 2 + 2).toNat))
    ((s.called target).ram.read (0x100 + (s.cpu.sp - 2 + 1).toNat)) + 1 = s.cpu.pc
  rw [hsp, hsp', State.called, State.setPc_ram, State.setSp_ram, State.setRam_ram, Memory.read_write_other _ _ hne,
    Memory.read_write_same, Memory.read_write_same, cat_hi_lo, BitVec.sub_add_cancel]

/-- Settles O51: the jumps by their resolved operands, and RTS after JSR by reading back what was pushed. -/
theorem jumpsCallsReturns : Obligations.JumpsCallsReturns := by
  unfold Obligations.JumpsCallsReturns
  refine fun s => ⟨fun l h => exec_eq_next (a := cat h l) rfl rfl, fun l h => exec_jmpInd_of_readable,
    fun l h => exec_jsrAbs l h s, exec_rts s, fun l h t u ht hu => ?_⟩
  cases (exec_jsrAbs l h s).symm.trans ht
  cases (exec_rts _).symm.trans hu
  exact called_returned (resolved (.abs l h) s) (cat h l)

/-! ## BRK and RTI (R212, R213, R340) -/

theorem eq_pack {f : Flags} {b : Bool} {p : Byte} (h : ∀ k, p.getLsbD k = statusBit f b k) : p = f.pack b :=
  BitVec.eq_of_getLsbD_eq fun k _ => (h k).trans (pack_getLsbD f b k).symm

/-- An entry is the pushes with I set, and then the vector's word or its fault (R12, R213, R334). -/
theorem enterVector_toOutcome {ret v : Word} (b : Bool) (s : State) (hv : 0x401F < v.toNat)
    (hv' : 0x401F < (v + 1).toNat) :
    (enterVector ret b v s).toOutcome = throughVector (s.entering ret b) v fun w => w := by
  rw [← vector_outcome hv hv', enterVector_eq]
  simp only [ramIndex_stackAddress, sub_one_sub_one, sub_two_sub_one]
  rfl

theorem throughVector_of_plainRead {u : State} {v : Word} {lo hi : Byte} (hl : plainRead u v = some lo)
    (hh : plainRead u (v + 1) = some hi) (last : State → State) :
    throughVector u v last = .next (last (u.setPc (hi ++ lo))) := by
  rw [throughVector, hl, hh]
  rfl

theorem exec_brk (s : State) :
    exec .brk s = throughVector ((resolved .imp s).entering (s.cpu.pc + 1) true) 0xFFFE fun w => w :=
  enterVector_toOutcome true (resolved .imp s) (by decide) (by decide)

/-- BRK takes its PC from the vector, which no push reaches (R71, R213). -/
theorem exec_brk_of_plainRead {s : State} {lo hi : Byte} (hl : plainRead s 0xFFFE = some lo)
    (hh : plainRead s 0xFFFF = some hi) :
    exec .brk s = .next (((resolved .imp s).entering (s.cpu.pc + 1) true).setPc (hi ++ lo)) := by
  have keeps {a : Word} (ha : 0x401F < a.toNat) :
      plainRead ((resolved .imp s).entering (s.cpu.pc + 1) true) a = plainRead s a := plainRead_cart_congr ha rfl rfl
  rw [exec_brk]
  exact throughVector_of_plainRead ((keeps (by decide)).trans hl) ((keeps (by decide)).trans hh) _

theorem exec_rti (s : State) :
    exec .rti s = .next (((((resolved .imp s).setSp (s.cpu.sp + 3)).setFlags
      (Flags.unpack (s.ram.read (0x100 + (s.cpu.sp + 1).toNat)))).setPc
        (cat (s.ram.read (0x100 + (s.cpu.sp + 3).toNat)) (s.ram.read (0x100 + (s.cpu.sp + 2).toNat)))).setServicing
          false) := by
  refine exec_of (m := .rti) rfl (by decide) (resolve_imp s) ((returnFromInterrupt_eq _).trans ?_)
  simp only [ramByte, ramIndex_stackAddress, add_one_add_one, add_two_add_one]
  rfl

/-- Settles O53: BRK is an entry through the IRQ vector, and RTI is the pulls. -/
theorem breakAndReturn : Obligations.BreakAndReturn := by
  unfold Obligations.BreakAndReturn
  refine fun s => ⟨?_, ?_⟩
  · rintro p ret u hp rfl rfl
    obtain rfl := eq_pack hp
    exact ⟨fun lo hi => exec_brk_of_plainRead, exec_brk s⟩
  · rintro p rfl
    exact exec_rti s

end Sys2Proof.Machine

/-! SUPPORT. The pushes and pulls (O52), and the flag instructions and the NOPs (O46). -/

namespace Sys2Proof.Machine

/-! ## The pushes and pulls (R24-R29, R220-R223) -/

/-- What a push leaves: the byte at the stack address, and then S decremented (R28). -/
def State.pushed (s : State) (v : Byte) : State :=
  (s.setRam (s.ram.write (0x100 + s.cpu.sp.toNat) v)).setSp (s.cpu.sp - 1)

theorem push_eq_pushed (v : Byte) (s : State) : push v s = .ok () (s.pushed v) := by
  rw [push_eq, ramIndex_stackAddress]
  rfl

/-- The byte that a pull loads: the one at the stack address above S (R29). -/
def State.pulled (s : State) : Byte := s.ram.read (0x100 + (s.cpu.sp + 1).toNat)

theorem pull_eq_pulled (s : State) : pull s = .ok s.pulled (s.setSp (s.cpu.sp + 1)) := by
  rw [pull_eq, ramByte, ramIndex_stackAddress]
  rfl

/-- A pull after a push loads the byte pushed, also where S wraps (R28, R29). -/
theorem pulled_pushed (s : State) (v : Byte) : (s.pushed v).pulled = v := by
  change (s.ram.write (0x100 + s.cpu.sp.toNat) v).read (0x100 + (s.cpu.sp - 1 + 1).toNat) = v
  rw [BitVec.sub_add_cancel, Memory.read_write_same]

/-- `Unpack` gives back the six flags that `Pack` placed, whatever the break bit (R24, R25). -/
theorem unpack_pack (f : Flags) (b : Bool) : Flags.unpack (f.pack b) = f := by
  simp only [Flags.unpack, pack_getLsbD, statusBit]

theorem exec_pha (s : State) : exec .pha s = .next ((resolved .imp s).pushed s.cpu.a) :=
  exec_of (m := .pha) rfl (by decide) (resolve_imp s) (push_eq_pushed _ _)

theorem exec_php (s : State) : exec .php s = .next ((resolved .imp s).pushed (s.cpu.flags.pack true)) :=
  exec_of (m := .php) rfl (by decide) (resolve_imp s) (push_eq_pushed _ _)

theorem exec_pla (s : State) :
    exec .pla s = .next ((((resolved .imp s).setSp (s.cpu.sp + 1)).setA s.pulled).setNZ s.pulled) := by
  refine exec_of (m := .pla) rfl (by decide) (resolve_imp s) ?_
  rw [actionOf, pla, pull_eq_pulled]
  rfl

theorem exec_plp (s : State) :
    exec .plp s = .next (((resolved .imp s).setSp (s.cpu.sp + 1)).setFlags (Flags.unpack s.pulled)) := by
  refine exec_of (m := .plp) rfl (by decide) (resolve_imp s) ?_
  rw [actionOf, plp, pull_eq_pulled]
  rfl

/-- Settles O52: the four by their pushes and pulls, and PLP after PHP by pulling back the status byte pushed. -/
theorem pushesAndPulls : Obligations.PushesAndPulls := by
  unfold Obligations.PushesAndPulls
  refine fun s => ⟨exec_pha s, fun p hp => ?_, ?_, fun t u ht hu => ?_⟩
  · obtain rfl := eq_pack hp
    exact exec_php s
  · rintro m rfl
    exact ⟨exec_pla s, exec_plp s⟩
  · cases (exec_php s).symm.trans ht
    cases (exec_plp _).symm.trans hu
    have hp := pulled_pushed (resolved .imp s) (s.cpu.flags.pack true)
    exact ⟨(congrArg Flags.unpack hp).trans (unpack_pack _ _), BitVec.sub_add_cancel _ _⟩

/-! ## The flag instructions and the NOPs (R224-R231, R250) -/

/-- A NOP, in whatever mode, resolves its operand and does nothing else (R231, R250). -/
theorem exec_nop {i : Instr} (hi : i.mnemonic = .nop) (s : State) : exec i s = .next (resolved i.operand s) := by
  have hj : i.mnemonic ≠ .jmp := fun e => Mnemonic.noConfusion (hi.symm.trans e)
  obtain ⟨r, hr⟩ := resolve_of_ne_ind (operand_ne_ind hj) s
  exact exec_of hi (by decide) hr rfl

/-- Settles O46, by running each of the seven flag instructions, and by resolving the operand of a NOP. -/
theorem flagWritesAndNops : Obligations.FlagWritesAndNops := by
  unfold Obligations.FlagWritesAndNops
  exact fun s => ⟨rfl, rfl, rfl, rfl, rfl, rfl, rfl, fun _ hi => exec_nop hi s⟩

end Sys2Proof.Machine

/-! SUPPORT. The PPU's registers as the CPU reads and writes them (O29-O33). -/

namespace Sys2Proof.Machine

/-! ## A register access, at every mirror (R63) -/

theorem memRead_register {a : Word} (h : 0x2000 ≤ a.toNat) (h' : a.toNat ≤ 0x3FFF) {r : PpuReg}
    (hr : a.toNat % 8 = r.index) (s : State) : memRead a s = ppuRegRead r s := by
  rw [memRead_ppu h h', ppuReg_eq_iff.mpr hr]

theorem memWrite_register {a : Word} (h : 0x2000 ≤ a.toNat) (h' : a.toNat ≤ 0x3FFF) {r : PpuReg}
    (hr : a.toNat % 8 = r.index) (d : Byte) (s : State) : memWrite a d s = ppuRegWrite r d s := by
  rw [memWrite_ppu h h', ppuReg_eq_iff.mpr hr]

/-! ## The fields of t, bit by bit (R261, R268, R269) -/

theorem forall_lt_fifteen {P : Nat → Prop} : (∀ k, k < 15 → P k) ↔
    P 0 ∧ P 1 ∧ P 2 ∧ P 3 ∧ P 4 ∧ P 5 ∧ P 6 ∧ P 7 ∧ P 8 ∧ P 9 ∧ P 10 ∧ P 11 ∧ P 12 ∧ P 13 ∧ P 14 := by
  simp only [Nat.forall_lt_succ_right, Nat.not_lt_zero, false_implies, implies_true, true_and, and_assoc]

/-- A bit of a 15-bit register is one of its fifteen bits, or clear. -/
theorem getLsbD_eq_of_lt {x : BitVec 15} {b : Bool} {k : Nat} (low : k < 15 → x.getLsbD k = b)
    (high : 15 ≤ k → b = false) : x.getLsbD k = b := by
  rcases Nat.lt_or_ge k 15 with hk | hk
  · exact low hk
  · rw [high hk, BitVec.getLsbD_of_ge x k hk]

theorem writeControl_t_getLsbD (p : Ppu) (d : Byte) (k : Nat) :
    (p.writeControl d).t.getLsbD k =
      if k = 10 then d.getLsbD 0 else if k = 11 then d.getLsbD 1 else p.t.getLsbD k := by
  refine getLsbD_eq_of_lt (fun hk => ?_) (fun hk => ?_)
  · rw [Ppu.writeControl]
    revert k
    exact forall_lt_fifteen.mpr (by simp)
  · rw [if_neg (by omega), if_neg (by omega), BitVec.getLsbD_of_ge _ k hk]

theorem writeScroll_first {p : Ppu} (hw : p.w = false) (d : Byte) :
    p.writeScroll d = { p with t := (p.writeScroll d).t, x := d.setWidth 3, w := true } := by
  simp only [Ppu.writeScroll, hw, Bool.false_eq_true, if_false]

theorem writeScroll_second {p : Ppu} (hw : p.w = true) (d : Byte) :
    p.writeScroll d = { p with t := (p.writeScroll d).t, w := false } := by
  simp only [Ppu.writeScroll, hw, if_true]

theorem writeScroll_first_t_getLsbD {p : Ppu} (hw : p.w = false) (d : Byte) (k : Nat) :
    (p.writeScroll d).t.getLsbD k = if k < 5 then d.getLsbD (k + 3) else p.t.getLsbD k := by
  refine getLsbD_eq_of_lt (fun hk => ?_) (fun hk => ?_)
  · rw [Ppu.writeScroll, hw]
    revert k
    exact forall_lt_fifteen.mpr (by simp)
  · rw [if_neg (by omega), BitVec.getLsbD_of_ge _ k hk]

theorem writeScroll_second_t_getLsbD {p : Ppu} (hw : p.w = true) (d : Byte) (k : Nat) :
    (p.writeScroll d).t.getLsbD k = if 12 ≤ k ∧ k < 15 then d.getLsbD (k - 12)
      else if 5 ≤ k ∧ k < 10 then d.getLsbD (k - 2) else p.t.getLsbD k := by
  refine getLsbD_eq_of_lt (fun hk => ?_) (fun hk => ?_)
  · rw [Ppu.writeScroll, hw]
    revert k
    exact forall_lt_fifteen.mpr (by simp)
  · rw [if_neg (by omega), if_neg (by omega), BitVec.getLsbD_of_ge _ k hk]

theorem writeAddress_first {p : Ppu} (hw : p.w = false) (d : Byte) :
    p.writeAddress d = { p with t := (p.writeAddress d).t, w := true } := by
  simp only [Ppu.writeAddress, hw, Bool.false_eq_true, if_false]

theorem writeAddress_second {p : Ppu} (hw : p.w = true) (d : Byte) :
    p.writeAddress d = { p with t := (p.writeAddress d).t, v := (p.writeAddress d).t, w := false } := by
  simp only [Ppu.writeAddress, hw, if_true]

theorem writeAddress_first_t_getLsbD {p : Ppu} (hw : p.w = false) (d : Byte) (k : Nat) :
    (p.writeAddress d).t.getLsbD k =
      if 8 ≤ k ∧ k < 14 then d.getLsbD (k - 8) else (decide (k < 8) && p.t.getLsbD k) := by
  refine getLsbD_eq_of_lt (fun hk => ?_) (fun hk => ?_)
  · rw [Ppu.writeAddress, hw]
    revert k
    exact forall_lt_fifteen.mpr (by simp)
  · rw [if_neg (by omega), BitVec.getLsbD_of_ge _ k hk, Bool.and_false]

theorem writeAddress_second_t_getLsbD {p : Ppu} (hw : p.w = true) (d : Byte) (k : Nat) :
    (p.writeAddress d).t.getLsbD k = if k < 8 then d.getLsbD k else p.t.getLsbD k := by
  refine getLsbD_eq_of_lt (fun hk => ?_) (fun hk => ?_)
  · rw [Ppu.writeAddress, hw]
    revert k
    exact forall_lt_fifteen.mpr (by simp)
  · rw [if_neg (by omega), BitVec.getLsbD_of_ge _ k hk]

/-- R269's example: whatever t held, the two bytes make up the whole of it. -/
theorem writeAddress_pair_3F00 {p : Ppu} (hw : p.w = false) :
    (p.writeAddress 0x3F).writeAddress 0x00 = { p with t := 0x3F00, v := 0x3F00 } := by
  have hw' : (p.writeAddress 0x3F).w = true := by rw [writeAddress_first hw]
  have ht : ((p.writeAddress 0x3F).writeAddress 0x00).t = 0x3F00 := by
    refine BitVec.eq_of_getLsbD_eq fun k hk => ?_
    rw [writeAddress_second_t_getLsbD hw', writeAddress_first_t_getLsbD hw]
    revert k
    exact forall_lt_fifteen.mpr (by simp)
  rw [writeAddress_second hw', ht, writeAddress_first hw, ← hw]

/-! ## Control, Mask, Status, Scroll and Address -/

theorem status_eq (p : Ppu) : p.status = if p.vblank then 0x80 else 0 := by
  cases h : p.vblank <;> rw [Ppu.status, h] <;> rfl

/-- Settles O30, register by register. -/
theorem controlMaskStatusScroll : Obligations.ControlMaskStatusScroll := by
  unfold Obligations.ControlMaskStatusScroll
  intro a d s ha ha'
  have write {r : PpuReg} (hr : a.toNat % 8 = r.index) := memWrite_register ha ha' hr d s
  have read {r : PpuReg} (hr : a.toNat % 8 = r.index) := memRead_register ha ha' hr s
  refine ⟨fun h => ?readsZero, fun h => ⟨_, writeControl_t_getLsbD s.ppu d, write (r := .control) h⟩,
    write (r := .mask), fun h => ⟨write (r := .status) h, ?status⟩, fun h hw => ?scrollFirst, fun h hw => ?scrollSecond⟩
  case readsZero =>
    simp only [List.mem_cons, List.not_mem_nil, or_false] at h
    rcases h with h | h | h | h | h
    · exact read (r := .control) h
    · exact read (r := .mask) h
    · exact read (r := .oamAddress) h
    · exact read (r := .scroll) h
    · exact read (r := .address) h
  case status => rw [read (r := .status) h, ppuRegRead, status_eq]; rfl
  case scrollFirst =>
    refine ⟨_, d.setWidth 3, writeScroll_first_t_getLsbD hw d, fun k => BitVec.getLsbD_setWidth 3 d k, ?_⟩
    rw [write (r := .scroll) h, ppuRegWrite, writeScroll_first hw]
    rfl
  case scrollSecond =>
    refine ⟨_, writeScroll_second_t_getLsbD hw d, ?_⟩
    rw [write (r := .scroll) h, ppuRegWrite, writeScroll_second hw]
    rfl

/-- Settles O31, by the port's two writes, and the quoted example by running them one after the other. -/
theorem addressPort : Obligations.AddressPort := by
  unfold Obligations.AddressPort
  intro a s ha ha' h
  have write (d : Byte) (s : State) : memWrite a d s = .ok () (s.setPpu (s.ppu.writeAddress d)) :=
    memWrite_register (r := .address) ha ha' h d s
  refine ⟨fun d hw => ⟨_, writeAddress_first_t_getLsbD hw d, ?_⟩,
    fun d hw => ⟨_, writeAddress_second_t_getLsbD hw d, ?_⟩, fun hw => ⟨_, write 0x3F s, ?_⟩⟩
  · rw [write, writeAddress_first hw]
    rfl
  · rw [write, writeAddress_second hw]
    rfl
  · rw [write, State.setPpu_ppu, writeAddress_pair_3F00 hw]
    rfl

/-! ## The OAM ports (R265-R267) -/

theorem add_one_eq_ite (b : Byte) : b + 1 = if b = 0xFF then 0 else b + 1 := by
  split
  · next h => rw [h]; rfl
  · rfl

theorem writeOamData_eq (p : Ppu) (d : Byte) : p.writeOamData d =
    { p with oam := p.oam.write p.oamAddr.toNat d, oamAddr := if p.oamAddr = 0xFF then 0 else p.oamAddr + 1 } := by
  rw [← add_one_eq_ite, Ppu.writeOamData]

/-- Settles O29, register by register. -/
theorem oamPorts : Obligations.OamPorts := by
  unfold Obligations.OamPorts
  refine fun a d s ha ha' => ⟨fun h => memWrite_register (r := .oamAddress) ha ha' h d s, fun h => ?_,
    fun h => memRead_register (r := .oamData) ha ha' h s⟩
  rw [memWrite_register (r := .oamData) ha ha' h, ppuRegWrite, writeOamData_eq]
  rfl

/-! ## Data writes (R270) -/

theorem externalWrite_eq_raise {o : Option Nat} {k e : FaultKind} {s t : State} (h : externalWrite o k s = .raise e t) :
    t = s := by
  cases o <;> cases h
  rfl

theorem ppuWriteLow_eq_raise {a : Word} {v : Byte} {s t : State} {k : FaultKind} (h : ppuWriteLow a v s = .raise k t) :
    t = s := by
  simp only [ppuWriteLow, cartChrWrite, cartNtWrite] at h
  split at h
  · cases hc : s.cfg.cart <;> simp only [hc] at h
    · cases hw : s.cfg.chrWrite <;> simp only [hw] at h <;> cases h
      rfl
    · exact externalWrite_eq_raise h
  · split at h
    · cases hc : s.cfg.cart <;> simp only [hc] at h
      · cases h
      · exact externalWrite_eq_raise h
    · cases h

/-- A PPU bus write that raises changes nothing (R12, R83). -/
theorem ppuWrite_eq_raise {a : Word} {v : Byte} {s t : State} {k : FaultKind} (h : ppuWrite a v s = .raise k t) :
    t = s := by
  simp only [ppuWrite] at h
  split at h
  · cases hp : s.cfg.ppuAddrHigh <;> rw [hp] at h
    · cases h; rfl
    · exact ppuWriteLow_eq_raise h
  · exact ppuWriteLow_eq_raise h

theorem ppuDataWrite_of_ok {d : Byte} {s t : State} (h : ppuWrite s.ppu.busAddress d s = .ok () t) :
    ppuDataWrite d s = .ok () (t.setPpu t.ppu.increment) := by
  rw [ppuDataWrite, h, Res.andThen_ok]

/-- Settles O32, by what the PPU bus write answers: v moves on after a write and stays where it was after a raise. -/
theorem dataWrite : Obligations.DataWrite := by
  unfold Obligations.DataWrite
  intro a d s ha ha' h
  rw [memWrite_register (r := .data) ha ha' h, ppuRegWrite]
  refine ⟨fun t ht => ppuDataWrite_of_ok ht, fun k t ht => ⟨?_, by rw [ppuWrite_eq_raise ht]⟩, fun hv hc hd => ?_⟩
  · rw [ppuDataWrite, Ppu.busAddress, ht, Res.andThen_raise]
  · have hw : ppuWrite s.ppu.busAddress d s = .ok () (s.setPpu { s.ppu with pal := s.ppu.pal.write 0 d }) := by
      rw [Ppu.busAddress, hv]
      exact ppuWrite_palette (a := 0x3F10) (by decide) (by decide) d s
    have hi : s.ppu.incremented = 0x3F11 := by rw [Ppu.incremented, hv, hc]; rfl
    rw [ppuDataWrite_of_ok hw, hd, ← hi]
    rfl

/-! ## Data reads (R271, R273) -/

theorem busAddress_toNat (p : Ppu) : p.busAddress.toNat = p.v.toNat :=
  BitVec.toNat_setWidth_of_le (by decide)

theorem incremented_toNat (p : Ppu) :
    p.incremented.toNat = (p.v.toNat + (if p.ctrl.getLsbD 2 then 32 else 1)) % 0x8000 := by
  rw [Ppu.incremented, BitVec.toNat_add]
  split <;> rfl

theorem dataAddress_toNat (v : BitVec 15) : (dataAddress v).toNat = v.toNat % 0x4000 := by
  rw [dataAddress, and_3FFF_toNat, BitVec.toNat_setWidth_of_le (by decide)]

/-- A Data read at an address that is not rejected: the fetch at the folded address, and then the increment (R271). -/
theorem ppuDataRead_of_addressed {s : State} (h : ppuAddressed s s.ppu.v = true) :
    ppuDataRead s = (ppuDataFetch (dataAddress s.ppu.v) s).andThen fun r t => .ok r (t.setPpu t.ppu.increment) :=
  if_neg (not_high_of_ppuAddressed h)

theorem ppuDataFetch_buffered {a : Word} {s : State} {b : Byte} (ha : a.toNat < 0x3F00) (hb : ppuRead a s = .ok b s) :
    ppuDataFetch a s = .ok s.ppu.buffer (s.setPpu { s.ppu with buffer := b }) := by
  rw [ppuDataFetch, if_neg (Nat.not_le.mpr ha), hb, Res.andThen_ok]

theorem ppuDataFetch_palette_unchanged {a : Word} {s : State} (ha : 0x3F00 ≤ a.toNat) (ha' : a.toNat ≤ 0x3FFF)
    (hp : s.cfg.palReadBuffer = .unchanged) : ppuDataFetch a s = .ok (s.ppu.pal.read (palIndex a.toNat)) s := by
  rw [ppuDataFetch, if_pos ha, ppuRead_palette ha ha', Res.andThen_ok, hp]

theorem ppuDataFetch_palette_underlying {a : Word} {s : State} {b : Byte} (ha : 0x3F00 ≤ a.toNat)
    (ha' : a.toNat ≤ 0x3FFF) (hp : s.cfg.palReadBuffer = .underlying) (hb : ppuRead (a - 0x1000) s = .ok b s) :
    ppuDataFetch a s = .ok (s.ppu.pal.read (palIndex a.toNat)) (s.setPpu { s.ppu with buffer := b }) := by
  simp only [ppuDataFetch, if_pos ha, ppuRead_palette ha ha', Res.andThen_ok, hp, hb]

/-- Settles O33, by the address in v: rejected, or folded and then below the palette or in it. -/
theorem dataRead : Obligations.DataRead := by
  unfold Obligations.DataRead
  intro a s ha ha' h
  rw [memRead_register (r := .data) ha ha' h, ppuRegRead]
  refine ⟨fun hv hf => ?_, fun hv at14 next hat hnext => ?_⟩
  · exact if_pos ⟨(busAddress_toNat s.ppu).symm ▸ hv, hf⟩
  · have hs : ppuAddressed s s.ppu.v = true := by
      simpa only [ppuAddressed, Bool.or_eq_true, beq_iff_eq, decide_eq_true_eq] using hv.symm
    obtain rfl : at14 = dataAddress s.ppu.v := BitVec.eq_of_toNat_eq (hat.trans (dataAddress_toNat _).symm)
    obtain rfl : next = s.ppu.incremented := BitVec.eq_of_toNat_eq (hnext.trans (incremented_toNat _).symm)
    have hlt := Nat.le_of_lt_succ (dataAddress_toNat_lt s.ppu.v)
    rw [ppuDataRead_of_addressed hs]
    refine ⟨fun hl b hb => ?_, fun hp hu => ?_, fun hp hu b hb => ?_⟩
    · rw [ppuDataFetch_buffered hl hb]
      rfl
    · rw [ppuDataFetch_palette_unchanged hp hlt hu]
      rfl
    · rw [ppuDataFetch_palette_underlying hp hlt hu hb]
      rfl

end Sys2Proof.Machine

/-! SUPPORT. The step, action by action: the host's calls (O6), the driver's schedule (O16), the entries (O13-O15), an
instruction (O4), a halted machine (O7). -/

namespace Sys2Proof.Machine

/-! ## The host's calls (R310, R324, R361) -/

@[simp] theorem hostCalls_fault (s : State) : (hostCalls s).fault = s.fault := by
  obtain ⟨r, c, e⟩ := hostCalls_eq s
  rw [e]

theorem hostCalls_host (s : State) : (hostCalls s).host = s.host.tail := by
  obtain ⟨r, c, e⟩ := hostCalls_eq s
  rw [e]

/-- No call looks at the queue or changes it (log 6). -/
theorem foldl_hostCall_withHost (l : List HostCall) (s : State) (q : List (List HostCall)) :
    l.foldl hostCall { s with host := q } = { l.foldl hostCall s with host := q } := by
  induction l generalizing s with
  | nil => rfl
  | cons call l ih =>
    cases call with
    | update button pressed => exact ih (hostCall s (.update button pressed))
    | hostReset => exact ih (hostCall s .hostReset)

/-- A step sees its state only through the calls made before it (R324). -/
theorem step_congr {s t : State} (h : hostCalls s = hostCalls t) : step s = step t := by
  simp only [step, h]

theorem Button.number_lt (button : Button) : button.number < 8 := by cases button <;> decide

theorem withButton_eq (c : Controller) (button : Button) (pressed : Bool) :
    c.withButton button pressed = if pressed then c.buttons ||| BitVec.twoPow 8 button.number
      else c.buttons &&& ~~~BitVec.twoPow 8 button.number := by
  cases button <;> rfl

/-- `Update` sets or clears its own button's bit alone (R310). -/
theorem withButton_getLsbD (c : Controller) (button : Button) (pressed : Bool) (k : Nat) :
    (c.withButton button pressed).getLsbD k = if k = button.number then pressed else c.buttons.getLsbD k := by
  have hn := button.number_lt
  have high : 8 ≤ k → c.buttons.getLsbD k = false := BitVec.getLsbD_of_ge _ _
  rw [withButton_eq]
  generalize button.number = n at hn ⊢
  cases pressed with
  | true =>
    rw [if_pos rfl, BitVec.getLsbD_or, BitVec.getLsbD_twoPow, decide_eq_true hn, Bool.true_and]
    by_cases hk : k = n <;> simp [hk, eq_comm]
  | false =>
    rw [if_neg Bool.false_ne_true, BitVec.getLsbD_and, BitVec.getLsbD_not, BitVec.getLsbD_twoPow, decide_eq_true hn,
      Bool.true_and]
    by_cases hk : k = n
    · simp [hk]
    · rcases Nat.lt_or_ge k 8 with h | h
      · simp [hk, Ne.symm hk, h]
      · simp [hk, high h]

/-- A completed step leaves the queue as its calls left it (R324, log 6). -/
theorem step_host {s t : State} (h : step s = .next t) : t.host = s.host.tail := by
  rw [← hostCalls_host]
  obtain ⟨-, ⟨sl, -, hs⟩ | ⟨-, -, hs⟩ | ⟨-, -, rfl⟩ | ⟨-, hs⟩⟩ := step_cases h
  · obtain ⟨vb, nmi, rfl⟩ := startLine_eq_ok hs
    rfl
  · obtain ⟨u, n, f, rfl⟩ := cpuStep_eq_next hs
    exact f.host
  · rfl
  · obtain ⟨u, -, rfl⟩ := rasterStep_eq_ok hs
    rfl

/-- Settles O6: a step is its action on the state its calls leave, and no call looks at the queue. -/
theorem hostCallsActBetweenSteps : Obligations.HostCallsActBetweenSteps := by
  unfold Obligations.HostCallsActBetweenSteps
  refine ⟨fun s now later => step_congr (foldl_hostCall_withHost now s later), fun s => step_congr rfl,
    fun s t => step_host, fun s h => ?_, fun s now later h => ?_, fun s => rfl,
    fun s button pressed => ⟨_, withButton_getLsbD s.ctl button pressed, rfl⟩⟩
  · simp only [hostCalls, h]
  · simp only [hostCalls, h]

/-! ## The step by the driver's phase (R320, R331) -/

theorem step_halted {s : State} {k : FaultKind} (h : (hostCalls s).fault = some k) :
    step s = .fault (.fatal k (hostCalls s)) := by
  simp only [step, h]

theorem step_startLine {s : State} {sl : Nat} (hf : (hostCalls s).fault = none)
    (hp : (hostCalls s).drv.phase = .startLine sl) : step s = (startLine sl (hostCalls s)).toOutcome := by
  simp only [step, hf, hp]

theorem step_endBudget {s : State} (hf : (hostCalls s).fault = none) (hp : (hostCalls s).drv.phase = .cpu)
    (hb : (hostCalls s).cfg.cyclesPerScanline ≤ (hostCalls s).drv.acc) : step s = .next (endBudget (hostCalls s)) := by
  simp only [step, hf, hp, if_neg (Nat.not_lt.mpr hb)]

theorem step_raster {s : State} (hf : (hostCalls s).fault = none) (hp : (hostCalls s).drv.phase = .raster) :
    step s = (rasterStep (hostCalls s)).toOutcome := by
  simp only [step, hf, hp]

theorem step_cpuTurn {s : State} (h : cpuTurn (hostCalls s)) : step s = cpuStep (hostCalls s) := by
  obtain ⟨hf, hp, hb⟩ := h
  simp only [step, hf, hp, if_pos hb]

/-- Settles O7, by the first test of a step, which no call of the host changes. -/
theorem haltedStaysHalted : Obligations.HaltedStaysHalted := by
  unfold Obligations.HaltedStaysHalted
  intro s k hk
  have h : (hostCalls s).fault = some k := (hostCalls_fault s).trans hk
  refine ⟨step_halted h, h, fun t ht => ?_⟩
  cases (step_halted h).symm.trans ht

/-! ## The schedule of a scanline (R320-R325) -/

/-- A second request while an NMI is pending stops the driver with vblank set (R320, R336). -/
theorem startLine_doubleRequest {s : State} (he : s.ppu.ctrl.getLsbD 7 = true) (hn : s.cpu.nmiPending = true) :
    startLine 241 s = .raise .nmiDoubleRequest
      { s with drv := { s.drv with line := 241 }, ppu := { s.ppu with vblank := true } } := by
  have hv : vblankStart (s.setDrv { s.drv with line := 241 }) = .raise .nmiDoubleRequest
      { s with drv := { s.drv with line := 241 }, ppu := { s.ppu with vblank := true } } :=
    (if_pos he).trans (if_pos hn)
  have hl : (241 : Nat) = Config.vblankSetLine := rfl
  rw [startLine, if_pos hl, hv, Res.andThen_raise]

/-- The vblank set at line 241 requests an NMI where it is enabled (R274, R320). -/
theorem vblankStart_ok {s : State} (h : ¬(s.ppu.ctrl.getLsbD 7 = true ∧ s.cpu.nmiPending = true)) :
    vblankStart s = .ok () { s with
      ppu := { s.ppu with vblank := true }
      cpu := { s.cpu with nmiPending := s.cpu.nmiPending || s.ppu.ctrl.getLsbD 7 } } := by
  by_cases he : s.ppu.ctrl.getLsbD 7 = true
  · have hn : s.cpu.nmiPending ≠ true := fun hn => h ⟨he, hn⟩
    rw [he, Bool.or_true]
    exact (if_pos he).trans (if_neg hn)
  · rw [eq_false_of_ne_true he, Bool.or_false]
    exact if_neg he

/-- Vblank is cleared, where it is, after the events of line 241, and then the budget starts (R320, R321, log 22). -/
theorem startLine_of_events {sl : Nat} {s u : State}
    (h : (if sl = 241 then vblankStart (s.setDrv { s.drv with line := sl })
      else .ok () (s.setDrv { s.drv with line := sl })) = .ok () u) :
    startLine sl s = .ok () { u with
      drv := { u.drv with phase := .cpu }
      ppu := { u.ppu with vblank := if sl = u.cfg.vblankClearLine then false else u.ppu.vblank } } := by
  rw [startLine, Config.vblankSetLine, h, Res.andThen_ok]
  by_cases hc : sl = u.cfg.vblankClearLine
  · simp only [if_pos hc]; rfl
  · simp only [if_neg hc]; rfl

/-- The start of a scanline that does not request an NMI twice (R320, R321). -/
theorem startLine_ok {sl : Nat} {s : State} (h : ¬(sl = 241 ∧ s.ppu.ctrl.getLsbD 7 = true ∧ s.cpu.nmiPending = true)) :
    startLine sl s = .ok () { s with
      drv := { s.drv with line := sl, phase := .cpu }
      ppu := { s.ppu with
        vblank := if sl = s.cfg.vblankClearLine then false else if sl = 241 then true else s.ppu.vblank }
      cpu := { s.cpu with nmiPending := s.cpu.nmiPending || (decide (sl = 241) && s.ppu.ctrl.getLsbD 7) } } := by
  by_cases hv : sl = 241
  · rw [startLine_of_events ((if_pos hv).trans (vblankStart_ok fun hn => h ⟨hv, hn⟩)), if_pos hv, decide_eq_true hv,
      Bool.true_and]
    rfl
  · rw [startLine_of_events (if_neg hv), if_neg hv, decide_eq_false hv, Bool.false_and, Bool.or_false]
    rfl

theorem rasterStep_of_render {s u : State} (h : renderScanline s.drv.line s = .ok () u) :
    rasterStep s = .ok () { u with drv := { s.drv with phase := .startLine (nextLine s.cfg s.drv.line) } } := by
  rw [rasterStep, h, Res.andThen_ok, (renderScanline_frame h).1]
  rfl

/-- Settles O16, phase by phase. -/
theorem scanlineSchedule : Obligations.ScanlineSchedule := by
  unfold Obligations.ScanlineSchedule
  rintro s t sl rfl hf
  refine ⟨?doubleRequest, fun hp hn => ?start, fun hp hb => step_endBudget hf hp hb, fun hp u hu => ?raster⟩
  case doubleRequest =>
    rintro hp rfl he hn
    rw [step_startLine hf hp, startLine_doubleRequest he hn]
    rfl
  case start => rw [step_startLine hf hp, startLine_ok hn, Res.toOutcome_ok]
  case raster =>
    rw [step_raster hf hp, rasterStep_of_render hu]
    rfl

/-! ## The entries (R332-R337, R373) -/

/-- A vector's outcome looks at what is done last only in the states with the vector's PC. -/
theorem throughVector_congr {u : State} {v : Word} {f g : State → State} (h : ∀ pc, f (u.setPc pc) = g (u.setPc pc)) :
    throughVector u v f = throughVector u v g := by
  simp only [throughVector]
  cases plainRead u v with
  | none => rfl
  | some lo =>
    cases plainRead u (v + 1) with
    | none => rfl
    | some hi => exact congrArg Host.Outcome.next (h (hi ++ lo))

/-- An entry that reads its vector is charged where the vector answers; a fault reports nothing (R371, R373). -/
theorem report_throughVector (n : Nat) (u : State) (v : Word) (last : State → State) :
    report (fun _ => n) (throughVector u v last) = throughVector u v fun w => (last w).charge n := by
  simp only [throughVector]
  cases plainRead u v with
  | none => rfl
  | some lo => cases plainRead u (v + 1) <;> rfl

theorem Res.andThen_assoc {α β γ : Type} (r : Res α) (f : α → State → Res β) (g : β → State → Res γ) :
    (r.andThen f).andThen g = r.andThen fun a t => (f a t).andThen g := by
  cases r <;> rfl

/-- An entry's pushes with I set, the vector's word or its fault, and what the entry does last (R12, R334, R335). -/
theorem enterVector_andThen_toOutcome {ret v : Word} (b : Bool) (s : State) (hv : 0x401F < v.toNat)
    (hv' : 0x401F < (v + 1).toNat) (last : State → State) :
    ((enterVector ret b v s).andThen fun _ t => .ok () (last t)).toOutcome =
      throughVector (s.entering ret b) v last := by
  rw [← vector_outcome hv hv', enterVector_eq, Res.andThen_assoc]
  simp only [ramIndex_stackAddress, sub_one_sub_one, sub_two_sub_one]
  rfl

theorem cpuStep_reset {s : State} (h : s.cpu.resetPending = true) :
    cpuStep s = throughVector s.beginStep 0xFFFC fun w => { w with
      cpu := { w.cpu with
        flags := { w.cpu.flags with i := true }, resetPending := false, nmiPending := false, servicing := false }
      drv := { w.drv with acc := w.drv.acc + 7 }
      cpuSteps := w.cpuSteps + 1 } := by
  have e := vector_outcome (u := s.beginStep) (v := resetVector) (by decide) (by decide) fun w =>
    (((w.setI true).setResetPending false).setNmiPending false).setServicing false
  exact (if_pos h).trans ((congrArg _ e).trans (report_throughVector _ _ _ _))

theorem cpuStep_nmi {s : State} (hr : s.cpu.resetPending = false) (h : takesNmi s = true) :
    cpuStep s = throughVector (s.beginStep.entering s.cpu.pc false) 0xFFFA fun w => { w with
      cpu := { w.cpu with nmiPending := false, servicing := true }
      drv := { w.drv with acc := w.drv.acc + 7 }
      cpuSteps := w.cpuSteps + 1 } := by
  have e := enterVector_andThen_toOutcome (ret := s.cpu.pc) (v := nmiVector) false s.beginStep (by decide) (by decide)
    fun w => (w.setNmiPending false).setServicing true
  exact (if_neg (ne_true_of_eq_false hr)).trans ((if_pos h).trans ((congrArg _ e).trans (report_throughVector _ _ _ _)))

theorem cpuStep_irq {s : State} (hr : s.cpu.resetPending = false) (hn : takesNmi s = false) (h : takesIrq s = true) :
    cpuStep s = report (fun _ => 7) (irqEntry s.beginStep).toOutcome :=
  (if_neg (ne_true_of_eq_false hr)).trans ((if_neg (ne_true_of_eq_false hn)).trans (if_pos h))

theorem irqEntry_fatal {s : State} (h : s.cfg.irqEntry = .fatal) :
    irqEntry s = .raise (.irqUnimplemented s.cpu.pc) s := by
  simp only [irqEntry, h]

theorem irqEntry_service {s : State} (h : s.cfg.irqEntry = .service) :
    (irqEntry s).toOutcome = throughVector (s.entering s.cpu.pc false) 0xFFFE fun w => w.setServicing true := by
  simp only [irqEntry, h]
  exact enterVector_andThen_toOutcome (v := irqVector) false s (by decide) (by decide) _

/-- Settles O13: the reset is the first test of a CPU step. -/
theorem Settled.resetEntry : Obligations.ResetEntry := by
  unfold Obligations.ResetEntry
  rintro s t u rfl ht hr rfl
  have e := (step_cpuTurn ht).trans (cpuStep_reset hr)
  generalize hostCalls s = t at hr ht e ⊢
  refine ⟨fun lo hi hl hh => ?_, e.trans (throughVector_congr fun _ => rfl)⟩
  rw [e, throughVector_of_plainRead (u := t.beginStep) hl hh]
  rfl

theorem plainRead_entering {s : State} {a ret : Word} {b : Bool} (ha : 0x401F < a.toNat) :
    plainRead (s.beginStep.entering ret b) a = plainRead s a := plainRead_cart_congr ha rfl rfl

/-- Settles O14: an NMI comes after a reset alone. -/
theorem Settled.nmiEntry : Obligations.NmiEntry := by
  unfold Obligations.NmiEntry
  rintro s t u p rfl ht hr hn hs hp rfl
  obtain rfl := eq_pack hp
  have h : takesNmi (hostCalls s) = true := by
    rw [takesNmi, hn, Bool.true_and]
    rcases hs with hs | hs <;> rw [hs] <;> simp
  have e := (step_cpuTurn ht).trans (cpuStep_nmi hr h)
  generalize hostCalls s = t at hr ht hn hs h e ⊢
  refine ⟨fun lo hi hl hh => ?_, e.trans (throughVector_congr fun _ => rfl)⟩
  rw [e, throughVector_of_plainRead ((plainRead_entering (by decide)).trans hl) ((plainRead_entering (by decide)).trans hh)]
  rfl

/-- Settles O15: an IRQ comes after a reset and an NMI. -/
theorem Settled.irqEntry : Obligations.IrqEntry := by
  unfold Obligations.IrqEntry
  rintro s t rfl ht hr hn hs hi hq
  have hn' : takesNmi (hostCalls s) = false := by rw [takesNmi, hn, Bool.false_and]
  have hq' : takesIrq (hostCalls s) = true := by rw [takesIrq, hq, hi, hs]; rfl
  have e := (step_cpuTurn ht).trans (cpuStep_irq hr hn' hq')
  generalize hostCalls s = t at hr ht hn hs hi hq hn' hq' e ⊢
  refine ⟨fun hc => ?fatal, ?service⟩
  case fatal =>
    rw [e, irqEntry_fatal (s := t.beginStep) hc]
    rfl
  case service =>
    rintro hc u p hp rfl
    obtain rfl := eq_pack hp
    rw [irqEntry_service (s := t.beginStep) hc, report_throughVector] at e
    refine ⟨fun lo hi hl hh => ?_, e.trans (throughVector_congr fun _ => rfl)⟩
    rw [e, throughVector_of_plainRead ((plainRead_entering (by decide)).trans hl)
      ((plainRead_entering (by decide)).trans hh)]
    rfl

/-! ## An instruction (R22, R332) -/

theorem codeAt_beginStep {s : State} {a : Word} {l : List Byte} (h : codeAt s a l) : codeAt s.beginStep a l := by
  induction l generalizing a with
  | nil => trivial
  | cons b l ih => exact ⟨h.1, ih h.2⟩

/-- Settles O4, by fetching the instruction whose bytes stand at the PC. -/
theorem stepRunsDecodedInstruction : Obligations.StepRunsDecodedInstruction := by
  unfold Obligations.StepRunsDecodedInstruction
  rintro s t i rfl ht hi hw hc
  have hf := fetchInstr_of_code (s := (hostCalls s).beginStep) (opcodeCell i) hw (codeAt_beginStep hc)
  rw [step_instruction ht hi, instructionStep, hf]
  rfl

end Sys2Proof.Machine

/-! SUPPORT. The power-on state: its fields (O60), and that it meets the invariant (O9). -/

namespace Sys2Proof.Machine

/-- The power-on state meets the invariant when its image and its draws are in canonical form (R360). -/
theorem powerOn_inv {cfg : Config} {image : Image} {init : Init} (hc : cfg.wf = true) (hi : image.Ok cfg) (hd : init.Ok) :
    Inv (State.powerOn cfg image init) := by
  have hl : 0 < cfg.scanlinesPerFrame := by
    simp only [Config.wf, Config.driverWf, Bool.and_eq_true, decide_eq_true_eq] at hc
    exact hc.2.2
  exact {
    memories := ⟨hd.ram, hd.oam, hd.pal, hd.noAlias, hd.ciram, hi.chr, hi.prg, hd.fb⟩
    strobe := fun h => absurd h Bool.false_ne_true
    stall := .inl rfl
    line := ⟨hl, hl⟩
    cfg := hc }

theorem Memory.ok_nil (n : Nat) : Memory.ok [] n :=
  ⟨⟨List.Pairwise.nil, fun _ h => absurd h List.not_mem_nil⟩, fun _ h => absurd h List.not_mem_nil⟩

theorem image_empty_ok (cfg : Config) : Image.empty.Ok cfg := ⟨Memory.ok_nil _, Memory.ok_nil _⟩

theorem init_zero_ok : Init.zero.Ok where
  ram := Memory.ok_nil _
  oam := Memory.ok_nil _
  pal := Memory.ok_nil _
  noAlias := fun _ h => absurd h List.not_mem_nil
  ciram := Memory.ok_nil _
  fb := fun row => by
    have e : Init.zero.fb[row] = [] := Vector.getElem_replicate row.isLt
    rw [e]
    exact Memory.ok_nil _

/-- Settles O9, field by field, and for the reset state with every draw zero and the empty image. -/
theorem resetMeetsInvariant : Obligations.ResetMeetsInvariant := by
  unfold Obligations.ResetMeetsInvariant
  exact ⟨fun cfg image init => powerOn_inv, powerOn_inv (by decide) (image_empty_ok _) init_zero_ok⟩

/-- Settles O60, by the fields of the power-on state. -/
theorem powerOnState : Obligations.PowerOnState := by
  unfold Obligations.PowerOnState
  refine ⟨?_, rfl⟩
  rintro cfg image init s rfl
  exact ⟨rfl, rfl, rfl, rfl, rfl, rfl, rfl, rfl, rfl, rfl, rfl, rfl, rfl, rfl, rfl, rfl, rfl, rfl, rfl, rfl, rfl, rfl⟩

end Sys2Proof.Machine

/-! SUPPORT. Actions that are blind to a change of the state, above all the reads of the PPU bus and of Data. -/

namespace Sys2Proof.Machine

/-- An answer with its state changed by `g`. -/
def Res.mapState {α : Type} (g : State → State) : Res α → Res α
  | .ok a s => .ok a (g s)
  | .raise k s => .raise k (g s)

section
variable {α β : Type} {g : State → State}

/-- Two actions in order are blind to `g` when the second is blind to it wherever the first one leaves the state. -/
theorem Res.mapState_andThen {r : Res α} {f f' : α → State → Res β}
    (hf : ∀ a t, r = .ok a t → f' a (g t) = (f a t).mapState g) :
    (r.mapState g).andThen f' = (r.andThen f).mapState g := by
  cases r with
  | ok a t => exact hf a t rfl
  | raise k t => rfl

/-- A loop is blind to `g` when each of its actions is, in the states `P` that the actions keep. -/
theorem forEach_mapState {P : State → Prop} {f : α → State → Res Unit} {xs : List α}
    (hf : ∀ x ∈ xs, ∀ s, P s → f x (g s) = (f x s).mapState g ∧ ∀ t, f x s = .ok () t → P t) {s : State} (h : P s) :
    forEach xs f (g s) = (forEach xs f s).mapState g := by
  induction xs generalizing s with
  | nil => rfl
  | cons x xs ih =>
    obtain ⟨he, hp⟩ := hf x List.mem_cons_self s h
    rw [forEach_cons, forEach_cons, he]
    exact Res.mapState_andThen fun _ t ht => ih (fun y hy => hf y (List.mem_cons_of_mem x hy)) (hp t ht)

end

/-- A change of the state that nothing on the PPU bus sees (R78). -/
structure BusBlind (g : State → State) : Prop where
  cfg : ∀ s, (g s).cfg = s.cfg
  cart : ∀ s, (g s).cart = s.cart
  pal : ∀ s, (g s).ppu.pal = s.ppu.pal

theorem externalRead_mapState (g : State → State) (o : Option Byte) (k : FaultKind) (s : State) :
    externalRead o k (g s) = (externalRead o k s).mapState g := by
  cases o <;> rfl

section
variable {g : State → State} (h : BusBlind g)
include h

theorem cartChrRead_mapState (a : Word) (s : State) : cartChrRead a (g s) = (cartChrRead a s).mapState g := by
  simp only [cartChrRead, h.cfg, h.cart]
  cases s.cfg.cart with
  | nrom => rfl
  | external => exact externalRead_mapState g _ _ s

theorem cartNtRead_mapState (a : Word) (s : State) : cartNtRead a (g s) = (cartNtRead a s).mapState g := by
  simp only [cartNtRead, h.cfg, h.cart]
  cases s.cfg.cart with
  | nrom => rfl
  | external => exact externalRead_mapState g _ _ s

theorem ppuReadLow_mapState (a : Word) (s : State) : ppuReadLow a (g s) = (ppuReadLow a s).mapState g := by
  simp only [ppuReadLow, h.pal]
  split
  · exact cartChrRead_mapState h a s
  · split
    · exact cartNtRead_mapState h a s
    · rfl

/-- A read of the PPU bus sees the parameters, the cartridge and palette RAM alone (R78, R83). -/
theorem ppuRead_mapState (a : Word) (s : State) : ppuRead a (g s) = (ppuRead a s).mapState g := by
  simp only [ppuRead, h.cfg]
  split
  · cases s.cfg.ppuAddrHigh with
    | fatal => rfl
    | mask14 => exact ppuReadLow_mapState h _ s
  · exact ppuReadLow_mapState h a s

end

/-- The state with OAM, its cursor, vblank and w replaced: what an access to a register other than Data can leave. -/
def State.withPorts (oam : Memory) (cursor : Byte) (vblank w : Bool) (s : State) : State :=
  s.setPpu { s.ppu with oam := oam, oamAddr := cursor, vblank := vblank, w := w }

section
variable (oam : Memory) (cursor : Byte) (vblank w : Bool)

theorem withPorts_busBlind : BusBlind (State.withPorts oam cursor vblank w) := ⟨fun _ => rfl, fun _ => rfl, fun _ => rfl⟩

/-- A Data read sees neither OAM nor its cursor, vblank or w (R271). -/
theorem ppuDataRead_withPorts (s : State) : ppuDataRead (s.withPorts oam cursor vblank w) =
    (ppuDataRead s).mapState (State.withPorts oam cursor vblank w) := by
  have bus := ppuRead_mapState (withPorts_busBlind oam cursor vblank w)
  have fetch (a : Word) (s : State) : ppuDataFetch a (s.withPorts oam cursor vblank w) =
      (ppuDataFetch a s).mapState (State.withPorts oam cursor vblank w) := by
    simp only [ppuDataFetch, bus]
    split
    · refine Res.mapState_andThen fun b t _ => ?_
      simp only [(withPorts_busBlind oam cursor vblank w).cfg]
      cases t.cfg.palReadBuffer with
      | unchanged => rfl
      | underlying =>
        simp only [bus]
        exact Res.mapState_andThen fun _ _ _ => rfl
    · exact Res.mapState_andThen fun _ _ _ => rfl
  have ha : (s.withPorts oam cursor vblank w).ppu.busAddress = s.ppu.busAddress := rfl
  simp only [ppuDataRead, fetch, ha, (withPorts_busBlind oam cursor vblank w).cfg]
  split
  · rfl
  · exact Res.mapState_andThen fun _ _ _ => rfl

end

end Sys2Proof.Machine

/-! SUPPORT. The controller's port (O34, O35) and OAM DMA from every kind of page (O36). -/

namespace Sys2Proof.Machine

/-! ## The controller (R311-R313) -/

/-- Settles O34, by the two values of bit 0. -/
theorem controllerStrobe : Obligations.ControllerStrobe := by
  unfold Obligations.ControllerStrobe
  intro d s
  rw [memWrite_controller, ctlWrite, Controller.write]
  cases d.getLsbD 0 <;> rfl

theorem and_one_eq_ite (b : Byte) : b &&& 1 = if b.getLsbD 0 then 1 else 0 := by
  revert b
  decide

theorem Controller.shifted_shift (c : Controller) :
    c.shifted.shift = if c.strobe = true then c.shift else c.shift >>> 1 := by
  rw [Controller.shifted]
  split <;> rfl

/-- A read of 0x4016 answers the lowest bit, and shifts with the strobe off alone (R311). -/
theorem memRead_controller_eq (s : State) :
    memRead 0x4016 s = .ok (if s.ctl.shift.getLsbD 0 then 1 else 0)
      { s with ctl := { s.ctl with shift := if s.ctl.strobe = true then s.ctl.shift else s.ctl.shift >>> 1 } } := by
  rw [memRead_controller, ctlRead, and_one_eq_ite, Controller.shifted_eq, Controller.shifted_shift]
  rfl

theorem memRead_controller_off {s : State} (h : s.ctl.strobe = false) :
    memRead 0x4016 s = .ok (if s.ctl.shift.getLsbD 0 then 1 else 0)
      { s with ctl := { s.ctl with shift := s.ctl.shift >>> 1 } } := by
  rw [memRead_controller_eq, if_neg (ne_true_of_eq_false h)]

theorem memRead_controller_on {s : State} (h : s.ctl.strobe = true) :
    memRead 0x4016 s = .ok (if s.ctl.shift.getLsbD 0 then 1 else 0) s := by
  rw [memRead_controller_eq, if_pos h]

theorem readTimes_succ (n : Nat) {a : Word} {s t : State} {b : Byte} (h : memRead a s = .ok b t) :
    readTimes (n + 1) a s = (readTimes n a t).andThen fun bs u => .ok (b :: bs) u := by
  rw [readTimes, h, Res.andThen_ok]

/-- With the strobe off the bits come out from the lowest up (R311). -/
theorem readTimes_strobeOff (n : Nat) {s : State} (h : s.ctl.strobe = false) :
    readTimes n 0x4016 s = .ok ((List.range n).map fun k => if s.ctl.shift.getLsbD k then 1 else 0)
      { s with ctl := { s.ctl with shift := s.ctl.shift >>> n } } := by
  induction n generalizing s with
  | zero => rfl
  | succ n ih =>
    rw [readTimes_succ n (memRead_controller_off h),
      ih (s := { s with ctl := { s.ctl with shift := s.ctl.shift >>> 1 } }) h, Res.andThen_ok, List.range_succ_eq_map,
      List.map_cons, List.map_map, Nat.add_comm n, BitVec.shiftRight_add]
    simp only [BitVec.getLsbD_ushiftRight, Nat.add_comm 1]
    rfl

/-- With the strobe on nothing moves (R311). -/
theorem readTimes_strobeOn (n : Nat) {s : State} (h : s.ctl.strobe = true) :
    readTimes n 0x4016 s = .ok (List.replicate n (if s.ctl.shift.getLsbD 0 then 1 else 0)) s := by
  induction n with
  | zero => rfl
  | succ n ih => rw [readTimes_succ n (memRead_controller_on h), ih, Res.andThen_ok, List.replicate_succ]

/-- Settles O35, by induction on the number of reads. -/
theorem controllerReads : Obligations.ControllerReads := by
  unfold Obligations.ControllerReads
  exact fun n s => ⟨readTimes_strobeOff n, fun h hb => hb ▸ readTimes_strobeOn n h⟩

/-! ## OAM through a DMA's loop (R315) -/

/-- OAM after the first `n` bytes `f` of a DMA, written from the cursor of `p` on. -/
structure OamCopied (p : Ppu) (f : Nat → Byte) (n : Nat) (oam : Memory) : Prop where
  written : ∀ i < n, oam.read ((p.oamAddr.toNat + i) % 256) = f i
  rest : ∀ i < 256, n ≤ i → oam.read ((p.oamAddr.toNat + i) % 256) = p.oam.read ((p.oamAddr.toNat + i) % 256)

theorem cursor_toNat (b : Byte) (n : Nat) : (b + BitVec.ofNat 8 n).toNat = (b.toNat + n) % 256 := by
  rw [BitVec.toNat_add, BitVec.toNat_ofNat]
  omega

theorem oamCopied_zero (p : Ppu) (f : Nat → Byte) : OamCopied p f 0 p.oam :=
  ⟨fun _ h => absurd h (Nat.not_lt_zero _), fun _ _ _ => rfl⟩

/-- The 256 cells are apart, so that the next byte goes to a cell of its own (R315). -/
theorem OamCopied.succ {p : Ppu} {f : Nat → Byte} {n : Nat} {oam : Memory} (h : OamCopied p f n oam) (hn : n < 256) :
    OamCopied p f (n + 1) (oam.write (p.oamAddr + BitVec.ofNat 8 n).toNat (f n)) := by
  rw [cursor_toNat]
  refine ⟨fun i hi => ?_, fun i hi hni => ?_⟩
  · by_cases e : i = n
    · rw [e, Memory.read_write_same]
    · rw [Memory.read_write_other _ _ (by omega), h.written i (by omega)]
  · rw [Memory.read_write_other _ _ (by omega), h.rest i hi (by omega)]

/-- The state with OAM and its cursor replaced. -/
def State.withOam (s : State) (oam : Memory) (cursor : Byte) : State :=
  s.setPpu { s.ppu with oam := oam, oamAddr := cursor }

theorem dmaByte_withOam {page : Byte} {i : Nat} {s t : State} {oam : Memory} {b cursor : Byte}
    (h : memRead (dmaSource page i) (s.withOam oam cursor) = .ok b (t.withOam oam cursor)) :
    dmaByte page i (s.withOam oam cursor) = .ok () (t.withOam (oam.write cursor.toNat b) (cursor + 1)) := by
  rw [dmaByte, h]
  rfl

/-- A DMA's loop in general: `base i` is what its first `i` reads alone leave, and `f i` the byte that the read numbered
`i` answers, whatever the writes have put into OAM by then (R315). -/
theorem dmaLoop {page : Byte} {s : State} {f : Nat → Byte} {base : Nat → State} {n : Nat} (hn : n ≤ 256)
    (h0 : base 0 = s)
    (hr : ∀ i < n, ∀ oam, OamCopied s.ppu f i oam →
      memRead (dmaSource page i) ((base i).withOam oam (s.ppu.oamAddr + BitVec.ofNat 8 i)) =
        .ok (f i) ((base (i + 1)).withOam oam (s.ppu.oamAddr + BitVec.ofNat 8 i))) :
    ∃ oam, forEach (List.range n) (dmaByte page) s =
        .ok () ((base n).withOam oam (s.ppu.oamAddr + BitVec.ofNat 8 n)) ∧ OamCopied s.ppu f n oam := by
  have start : s = (base 0).withOam s.ppu.oam (s.ppu.oamAddr + BitVec.ofNat 8 0) := by
    rw [h0, BitVec.add_zero]
    rfl
  obtain ⟨_, ht, oam, rfl, hc⟩ := forEach_range_inv (f := dmaByte page) (n := n)
    (P := fun i t => ∃ oam, t = (base i).withOam oam (s.ppu.oamAddr + BitVec.ofNat 8 i) ∧ OamCopied s.ppu f i oam)
    (fun i hi t ht => by
      obtain ⟨oam, rfl, hc⟩ := ht
      refine ⟨_, dmaByte_withOam (hr i hi oam hc), _, ?_, hc.succ (by omega)⟩
      rw [BitVec.ofNat_add, BitVec.add_assoc]
      rfl)
    ⟨s.ppu.oam, start, oamCopied_zero _ _⟩
  exact ⟨oam, ht, hc⟩

/-- A whole DMA, after which the cursor is back where it was (R315, R374). -/
theorem dma_of_reads {page : Byte} {s : State} {f : Nat → Byte} {base : Nat → State} (h0 : base 0 = s)
    (hr : ∀ i < 256, ∀ oam, OamCopied s.ppu f i oam →
      memRead (dmaSource page i) ((base i).withOam oam (s.ppu.oamAddr + BitVec.ofNat 8 i)) =
        .ok (f i) ((base (i + 1)).withOam oam (s.ppu.oamAddr + BitVec.ofNat 8 i))) :
    ∃ oam, memWrite 0x4014 page s = .ok () (((base 256).withOam oam s.ppu.oamAddr).setDmaStall 514) ∧
      OamCopied s.ppu f 256 oam := by
  obtain ⟨oam, hl, hc⟩ := dmaLoop (Nat.le_refl 256) h0 hr
  refine ⟨oam, ?_, hc⟩
  rw [memWrite_dma rfl, oamDma, hl, Res.andThen_ok, show BitVec.ofNat 8 256 = 0#8 from rfl, BitVec.add_zero]
  rfl

/-- A DMA from bytes that read without a side effect changes OAM and the stall alone. -/
theorem dma_of_plain {page : Byte} {s : State} {f : Nat → Byte}
    (hr : ∀ i < 256, ∀ p : Ppu, memRead (dmaSource page i) (s.setPpu p) = .ok (f i) (s.setPpu p)) :
    ∃ oam : Memory, memWrite 0x4014 page s = .ok ()
        { s with ppu := { s.ppu with oam := oam }, scratch := { s.scratch with dmaStall := 514 } } ∧
      ∀ i < 256, oam.read ((s.ppu.oamAddr.toNat + i) % 256) = f i := by
  obtain ⟨oam, hw, hc⟩ := dma_of_reads (base := fun _ => s) rfl fun i hi oam _ => hr i hi _
  exact ⟨oam, hw, hc.written⟩

/-! ## From RAM and from the program ROM (R88, R315) -/

theorem dma_ram {page : Byte} (s : State) (h : page.toNat < 0x20) : ∃ oam : Memory,
    memWrite 0x4014 page s = .ok ()
      { s with ppu := { s.ppu with oam := oam }, scratch := { s.scratch with dmaStall := 514 } } ∧
    ∀ i < 256, oam.read ((s.ppu.oamAddr.toNat + i) % 256) = s.ram.read ((page.toNat * 256 + i) % 0x800) := by
  refine dma_of_plain fun i hi p => ?_
  have ha := dmaSource_toNat page hi
  rw [memRead_ram (by omega), ramByte, ramIndex, ha]
  rfl

theorem dma_rom {page : Byte} {s : State} (h : 0x80 ≤ page.toNat) (hc : s.cfg.cart = .nrom) : ∃ oam : Memory,
    memWrite 0x4014 page s = .ok ()
      { s with ppu := { s.ppu with oam := oam }, scratch := { s.scratch with dmaStall := 514 } } ∧
    ∀ i < 256, oam.read ((s.ppu.oamAddr.toNat + i) % 256) =
      s.cart.prg.read ((page.toNat * 256 + i - 0x8000) % (if s.cfg.prgBanks = .one then 0x4000 else 0x8000)) := by
  refine dma_of_plain fun i hi p => ?_
  have ha := dmaSource_toNat page hi
  rw [memRead_window (s := s.setPpu p) hc (by omega), prgOffset, ha, prgSize_eq]
  rfl

/-! ## From the PPU's registers (R316) -/

theorem memRead_data (s : State) : memRead 0x2007 s = ppuDataRead s := rfl

/-- Reads of one address answer one after another, each from the state the one before leaves. -/
theorem readTimes_eq_ok {n : Nat} {a : Word} {s u : State} {bs : List Byte} (h : readTimes n a s = .ok bs u) :
    ∃ r : Nat → State, r 0 = s ∧ r n = u ∧ ∀ k < n, ∃ b, bs[k]? = some b ∧ memRead a (r k) = .ok b (r (k + 1)) := by
  induction n generalizing s bs with
  | zero =>
    cases h
    exact ⟨fun _ => u, rfl, rfl, fun _ h => absurd h (Nat.not_lt_zero _)⟩
  | succ n ih =>
    obtain ⟨b, t, hb, h'⟩ := Res.andThen_eq_ok.mp h
    obtain ⟨bs', v, hbs, he⟩ := Res.andThen_eq_ok.mp h'
    cases he
    obtain ⟨r, rfl, rn, hr⟩ := ih hbs
    refine ⟨fun k => k.casesOn s r, rfl, rn, fun k hk => ?_⟩
    cases k with
    | zero => exact ⟨b, rfl, hb⟩
    | succ k => exact hr k (by omega)

/-- Reads of Data move v and the buffer alone (R271). -/
theorem dataReads_eq {n : Nat} {bs : List Byte} {r : Nat → State}
    (hr : ∀ k < n, ∃ b, bs[k]? = some b ∧ memRead 0x2007 (r k) = .ok b (r (k + 1))) {k : Nat} (hk : k ≤ n) :
    r k = (r 0).setPpu { (r 0).ppu with v := (r k).ppu.v, buffer := (r k).ppu.buffer } := by
  induction k with
  | zero => rfl
  | succ k ih =>
    obtain ⟨b, -, hb⟩ := hr k (by omega)
    obtain ⟨c, e⟩ := ppuDataRead_eq_ok hb
    rw [e, ih (by omega)]
    rfl

/-- The byte that read number `i` of a DMA from a page of PPU registers answers, where `bytes` are those of Data (R316). -/
def portByte (p : Ppu) (bytes : List Byte) (i : Nat) : Byte :=
  if i % 8 = 7 then (bytes[i / 8]?).getD 0
  else if i % 8 = 4 then p.oam.read ((p.oamAddr.toNat + i) % 256)
  else if i = 2 ∧ p.vblank = true then 0x80
  else 0

/-- What the first `i` reads of a page of PPU registers leave, where `r` are the states between the reads of Data: vblank and
w stand until the first read of Status (R316). -/
def portsBase (s : State) (r : Nat → State) (i : Nat) : State :=
  (r (i / 8)).withPorts s.ppu.oam s.ppu.oamAddr (decide (i ≤ 2) && s.ppu.vblank) (decide (i ≤ 2) && s.ppu.w)

theorem dmaSource_mod_eight (page : Byte) {i : Nat} (hi : i < 256) : (dmaSource page i).toNat % 8 = i % 8 := by
  rw [dmaSource_toNat page hi]
  omega

/-- A read of a register other than Status and Data leaves the state between two reads of Data, and the latches. -/
theorem portsBase_succ {s : State} {r : Nat → State} {i : Nat} (h2 : i % 8 ≠ 2) (h7 : i % 8 ≠ 7) :
    portsBase s r (i + 1) = portsBase s r i := by
  have hq : (i + 1) / 8 = i / 8 := by omega
  have hd : decide (i + 1 ≤ 2) = decide (i ≤ 2) := decide_eq_decide.mpr (by omega)
  rw [portsBase, portsBase, hq, hd]

/-- The reads of a DMA from a page of PPU registers (R263, R267, R271, R316). -/
theorem memRead_port {page : Byte} {s : State} {bytes : List Byte} {r : Nat → State} (h : 0x20 ≤ page.toNat)
    (h' : page.toNat < 0x40)
    (hr : ∀ k < 32, ∃ b, bytes[k]? = some b ∧ memRead 0x2007 (r k) = .ok b (r (k + 1))) {i : Nat} (hi : i < 256)
    {oam : Memory} (hc : OamCopied s.ppu (portByte s.ppu bytes) i oam) :
    memRead (dmaSource page i) ((portsBase s r i).withOam oam (s.ppu.oamAddr + BitVec.ofNat 8 i)) =
      .ok (portByte s.ppu bytes i) ((portsBase s r (i + 1)).withOam oam (s.ppu.oamAddr + BitVec.ofNat 8 i)) := by
  have ha := dmaSource_toNat page hi
  have hm := dmaSource_mod_eight page hi
  rw [memRead_ppu (by omega) (by omega)]
  have hreg := ppuReg_eq_iff.mp (rfl : ppuReg (dmaSource page i) = ppuReg (dmaSource page i))
  generalize ppuReg (dmaSource page i) = reg at hreg ⊢
  rw [hm] at hreg
  cases reg with
  | status =>
    have hi2 : i % 8 = 2 := hreg
    have hb : portByte s.ppu bytes i = if i = 2 ∧ s.ppu.vblank = true then 0x80 else 0 := by
      rw [portByte, if_neg (by omega), if_neg (by omega)]
    have hn : (i = 2 ∧ s.ppu.vblank = true) ↔ (decide (i ≤ 2) && s.ppu.vblank) = true := by
      rw [Bool.and_eq_true, decide_eq_true_iff]
      exact and_congr_left fun _ => by omega
    have hv : ((portsBase s r i).withOam oam (s.ppu.oamAddr + BitVec.ofNat 8 i)).ppu.status = portByte s.ppu bytes i := by
      rw [status_eq, hb]
      exact (if_congr hn rfl rfl).symm
    have hq : (i + 1) / 8 = i / 8 := by omega
    have hd : decide (i + 1 ≤ 2) = false := decide_eq_false (by omega)
    rw [ppuRegRead, hv, portsBase, portsBase, hq, hd]
    rfl
  | oamData =>
    have hi4 : i % 8 = 4 := hreg
    rw [portsBase_succ (by omega) (by omega), portByte, if_neg (by omega), if_pos hi4, ← hc.rest i hi (Nat.le_refl i),
      ← cursor_toNat]
    rfl
  | data =>
    have hi7 : i % 8 = 7 := hreg
    obtain ⟨b, hb, hd⟩ := hr (i / 8) (by omega)
    have hq : (i + 1) / 8 = i / 8 + 1 := by omega
    have hl : decide (i + 1 ≤ 2) = decide (i ≤ 2) := decide_eq_decide.mpr (by omega)
    have e := ppuDataRead_withPorts oam (s.ppu.oamAddr + BitVec.ofNat 8 i) (decide (i ≤ 2) && s.ppu.vblank)
      (decide (i ≤ 2) && s.ppu.w) (r (i / 8))
    rw [← memRead_data (r (i / 8)), hd] at e
    rw [portByte, if_pos hi7, hb, portsBase, portsBase, hq, hl]
    exact e
  | control | mask | oamAddress | scroll | address =>
    simp only [PpuReg.index] at hreg
    rw [portsBase_succ (by omega) (by omega), portByte, if_neg (by omega), if_neg (by omega), if_neg (by omega)]
    rfl

/-- A DMA from a page of PPU registers (R316). -/
theorem dma_ports {page : Byte} {s u : State} {bytes : List Byte} (h : 0x20 ≤ page.toNat) (h' : page.toNat < 0x40)
    (hd : readTimes 32 0x2007 s = .ok bytes u) : ∃ oam : Memory,
    memWrite 0x4014 page s = .ok ()
      { s with
        ppu := { s.ppu with oam := oam, vblank := false, w := false, v := u.ppu.v, buffer := u.ppu.buffer }
        scratch := { s.scratch with dmaStall := 514 } } ∧
    ∀ i < 256, some (oam.read ((s.ppu.oamAddr.toNat + i) % 256)) =
      if i % 8 = 7 then bytes[i / 8]?
      else if i % 8 = 4 then some (s.ppu.oam.read ((s.ppu.oamAddr.toNat + i) % 256))
      else if i = 2 ∧ s.ppu.vblank = true then some 0x80
      else some 0 := by
  obtain ⟨r, rfl, rfl, hr⟩ := readTimes_eq_ok hd
  obtain ⟨oam, hw, hc⟩ := dma_of_reads (page := page) (s := r 0) (f := portByte (r 0).ppu bytes) (base := portsBase (r 0) r) rfl
    fun i hi oam hc => memRead_port h h' hr hi hc
  refine ⟨oam, ?_, fun i hi => ?_⟩
  · rw [hw, portsBase, dataReads_eq hr (Nat.le_refl 32)]
    rfl
  · rw [hc.written i hi, portByte]
    split
    · obtain ⟨b, hb, -⟩ := hr (i / 8) (by omega)
      rw [hb, Option.getD_some]
    · split
      · rfl
      · split <;> rfl

/-! ## From page 0x40, and from below the program ROM (R68, R88, R316) -/

/-- The byte that read number `i` of a DMA from page 0x40 answers, below 0x18 (R64, R65, R311). -/
def ioByte (c : Controller) (i : Nat) : Byte := if i = 0x16 then c.shift &&& 1 else 0

/-- What the first `i` reads of page 0x40 leave (R311). -/
def ioBase (s : State) (i : Nat) : State := if i ≤ 0x16 then s else s.setCtl s.ctl.shifted

theorem memRead_io {s : State} {i : Nat} (hi : i < 0x18) (oam : Memory) (cursor : Byte) :
    memRead (dmaSource 0x40 i) ((ioBase s i).withOam oam cursor) =
      .ok (ioByte s.ctl i) ((ioBase s (i + 1)).withOam oam cursor) := by
  have ha : (dmaSource 0x40 i).toNat = 0x4000 + i := dmaSource_toNat 0x40 (by omega)
  by_cases hc : i = 0x16
  · subst hc
    rfl
  · have hb : ioBase s (i + 1) = ioBase s i := if_congr (by omega) rfl rfl
    rw [hb, ioByte, if_neg hc]
    by_cases hd : i = 0x14
    · subst hd
      rfl
    · exact memRead_inert (inertApu_iff.mpr (by omega)) _

/-- A DMA from page 0x40 stops at 0x4018, past the controller (R68, R316). -/
theorem dma_io (s : State) : ∃ oam : Memory,
    memWrite 0x4014 0x40 s = .raise (.unmappedCpuAddress 0x4018 .read)
      { s with
        ppu := { s.ppu with oam := oam, oamAddr := s.ppu.oamAddr + 0x18 }
        ctl := { s.ctl with shift := if s.ctl.strobe then s.ctl.shift else s.ctl.shift >>> 1 } } ∧
    (∀ i < 256, oam.read ((s.ppu.oamAddr.toNat + i) % 256) =
      if i = 0x16 then s.ctl.shift &&& 1 else if i < 0x18 then 0
      else s.ppu.oam.read ((s.ppu.oamAddr.toNat + i) % 256)) := by
  obtain ⟨oam, hl, hc⟩ := dmaLoop (page := 0x40) (n := 0x18) (s := s) (f := ioByte s.ctl) (base := ioBase s)
    (by decide) rfl fun i hi oam _ => memRead_io hi oam _
  have stop (t : State) : dmaByte 0x40 0x18 t = .raise (.unmappedCpuAddress 0x4018 .read) t := by
    rw [dmaByte, memRead_unmapped (by decide) (by decide), Res.andThen_raise]
    rfl
  refine ⟨oam, ?_, fun i hi => ?_⟩
  · rw [memWrite_dma rfl, oamDma, forEach_range_raise (by decide) hl (stop _), Res.andThen_raise, ioBase,
      if_neg (by decide), Controller.shifted_eq, Controller.shifted_shift]
    rfl
  · rcases Nat.lt_or_ge i 0x18 with h | h
    · rw [hc.written i h, ioByte, if_pos h]
    · rw [hc.rest i hi h, if_neg (by omega), if_neg (by omega)]

/-- A DMA from a page the default cartridge does not map stops at its first read (R88, R316). -/
theorem dma_unmapped {page : Byte} {s : State} (h : 0x41 ≤ page.toNat) (h' : page.toNat < 0x80)
    (hc : s.cfg.cart = .nrom) :
    memWrite 0x4014 page s = .raise (.unmappedCpuAddress (page ++ (0 : Byte)) .read) s := by
  have ha := dmaSource_toNat page (i := 0) (by decide)
  have e : dmaSource page 0 = page ++ (0 : Byte) := BitVec.eq_of_toNat_eq (ha.trans (cat_toNat page 0).symm)
  have hr : dmaByte page 0 s = .raise (.unmappedCpuAddress (dmaSource page 0) .read) s := by
    rw [dmaByte, memRead_belowWindow hc (by omega) (by omega), Res.andThen_raise]
  rw [memWrite_dma rfl, oamDma, forEach_range_raise (k := 0) (by decide) rfl hr, Res.andThen_raise, e]

/-- Settles O36, by the kind of page. -/
theorem oamDmaCopiesAPage : Obligations.OamDmaCopiesAPage := by
  unfold Obligations.OamDmaCopiesAPage
  exact ⟨fun _ s => dma_ram s, fun _ _ => dma_rom, fun _ _ _ _ => dma_ports, dma_io, fun _ _ => dma_unmapped⟩

end Sys2Proof.Machine

/-! SUPPORT. A rendered scanline, pixel by pixel: the background (O37) and the sprites over it (O38). -/

namespace Sys2Proof.Machine

/-! ## The pixels of one line (R295, R305) -/

/-- Every palette byte has a colour (R295). -/
def PaletteInRange (s : State) : Prop := (∀ k, (s.ppu.pal.read k).toNat < 0x40) ∨ s.cfg.palRange = .mask6

theorem PaletteInRange.byte {s : State} (h : PaletteInRange s) (k : Nat) :
    (s.ppu.pal.read k).toNat < 0x40 ∨ s.cfg.palRange = .mask6 := h.imp_left (· k)

/-- Scanline `sl` shows the palette indices `idx`, and nothing else has changed since `s`. -/
structure Shown (s : State) (sl : Nat) (idx : Nat → Nat) (t : State) : Prop where
  fbOnly : t = s.setFb t.fb
  line : ∀ x < 256, some (pixelAt t.fb x sl) = s.cfg.systemPalette[(s.ppu.pal.read (idx x)).toNat % 64]?
  rest : ∀ row x, row ≤ 239 → row ≠ sl → x < 256 → pixelAt t.fb x row = pixelAt s.fb x row

theorem Shown.ppu {s t : State} {sl : Nat} {idx : Nat → Nat} (h : Shown s sl idx t) : t.ppu = s.ppu := by
  rw [h.fbOnly]; rfl

theorem Shown.cfg {s t : State} {sl : Nat} {idx : Nat → Nat} (h : Shown s sl idx t) : t.cfg = s.cfg := by
  rw [h.fbOnly]; rfl

theorem Shown.congr {s t : State} {sl : Nat} {idx idx' : Nat → Nat} (h : Shown s sl idx t)
    (he : ∀ x < 256, idx' x = idx x) : Shown s sl idx' t :=
  ⟨h.fbOnly, fun x hx => by rw [he x hx]; exact h.line x hx, h.rest⟩

theorem drawn_shown {s t : State} {sl : Nat} (h : Drawn s sl 256 t) : Shown s sl (backgroundIndex s sl) t :=
  ⟨h.fbOnly, h.left, fun row x hrow hne hx => h.rest row x hrow hx (.inl hne)⟩

/-- Setting a pixel shows its index there, where the index is none of the four aliases of R81 (R295, R305). -/
theorem setPixel_shown {s t : State} {sl n i : Nat} {idx : Nat → Nat} (h : Shown s sl idx t) (hp : PaletteInRange s)
    (hl : sl ≤ 239) (hn : n < 256) (hi : palIndex (0x3F00 + i) = i) :
    ∃ u, setPixel n sl i t = .ok () u ∧ Shown s sl (Function.update idx n i) u := by
  have hb : palByte t.ppu i = s.ppu.pal.read i := by rw [h.ppu, palByte, hi]
  have hc := colour_of_inRange (p := palByte t.ppu i) (s := t) (by rw [hb, h.cfg]; exact hp.byte i)
  have hpix {row x : Nat} (hx : x < 256) := pixelAt_write t.fb
    (t.cfg.systemPalette[(palByte t.ppu i).toNat % 64]'(Nat.mod_lt _ (by decide))) (y := row) hn (show sl < 240 by omega) hx
  refine ⟨_, setPixel_eq hc, by rw [h.fbOnly]; rfl, fun x hx => ?_, fun row x hrow hne hx => ?_⟩
  · rw [State.setFb_fb, hpix hx]
    by_cases e : x = n
    · rw [if_pos ⟨e, rfl⟩, e, Function.update_self, h.cfg, hb, Vector.getElem?_eq_getElem]
    · rw [if_neg (fun k => e k.1), Function.update_of_ne e, h.line x hx]
  · rw [State.setFb_fb, hpix hx, if_neg (fun k => hne k.2), h.rest row x hrow hne hx]

/-! ## The background (R290-R297) -/

/-- The background of a visible scanline whose palette bytes have colours is shown (R291). -/
theorem backgroundPass_shown {s : State} {sl : Nat} (hl : sl ≤ 239) (hn : s.cfg.cart = .nrom) (hp : PaletteInRange s) :
    ∃ t, backgroundPass sl s = .ok () t ∧ Shown s sl (backgroundIndex s sl) t := by
  obtain ⟨t, ht, d⟩ := backgroundTiles_drawn (n := 32) hn hl (Nat.le_refl 32) fun _ _ => hp.byte _
  exact ⟨t, ht, drawn_shown d⟩

/-- What the statements say of a rendered line. -/
theorem Shown.exists_fb {s t : State} {sl : Nat} {idx : Nat → Nat} (h : Shown s sl idx t)
    (hr : renderScanline sl s = .ok () t) :
    ∃ fb : PixelBuffer, renderScanline sl s = .ok () { s with fb := fb } ∧
      (∀ x < 256, some (pixelAt fb x sl) = s.cfg.systemPalette[(s.ppu.pal.read (idx x)).toNat % 64]?) ∧
      (∀ (row x : Nat), row ≤ 239 → row ≠ sl → x < 256 → pixelAt fb x row = pixelAt s.fb x row) :=
  ⟨t.fb, hr.trans (congrArg (Res.ok ()) h.fbOnly), h.line, h.rest⟩

/-- Settles O37: with sprites hidden the background pass is the whole of it. -/
theorem backgroundOfAScanline : Obligations.BackgroundOfAScanline := by
  unfold Obligations.BackgroundOfAScanline
  intro sl s hl hn hm hp
  obtain ⟨t, ht, h⟩ := backgroundPass_shown hl hn hp
  refine h.exists_fb ?_
  rw [renderScanline, ht, Res.andThen_ok, h.ppu, if_neg (ne_true_of_eq_false hm)]

/-! ## One sprite (R298-R303) -/

/-- The palette index of sprite `i` where it is opaque (R303). -/
def spriteIndex (s : State) (sl i x : Nat) : Nat :=
  0x10 + (s.ppu.oam.read (4 * i + 2)).toNat % 4 * 4 + spriteBits s sl i x

/-- The indices shown once sprite `i` is drawn over `idx` (R303). -/
def spriteOver (s : State) (sl : Nat) (idx : Nat → Nat) (i x : Nat) : Nat :=
  if spriteBits s sl i x ≠ 0 then spriteIndex s sl i x else idx x

/-- The column a sprite starts at (R300). -/
def spriteLeft (p : Ppu) (i : Nat) : Nat := (p.oam.read (4 * i + 3)).toNat

theorem spriteHeight_eq (p : Ppu) : spriteHeight p = if p.ctrl.getLsbD 5 then 16 else 8 := rfl

theorem bit_mul (c : Bool) (n : Nat) : bit c * n = if c then n else 0 := by
  cases c <;> simp [bit]

theorem spriteAddr_eq (p : Ppu) (sl i : Nat) : spriteAddr p sl i =
    if p.ctrl.getLsbD 5 then
      (p.oam.read (4 * i + 1)).toNat % 2 * 0x1000 +
        ((p.oam.read (4 * i + 1)).toNat / 2 * 2 + spriteRow p sl i / 8) * 16 + spriteRow p sl i % 8
    else (if p.ctrl.getLsbD 3 then 0x1000 else 0) + (p.oam.read (4 * i + 1)).toNat * 16 + spriteRow p sl i := by
  by_cases h : p.ctrl.getLsbD 5 = true
  · simp only [spriteAddr, spriteHeight_eq, if_pos h]
    rfl
  · simp only [spriteAddr, spriteHeight_eq, if_neg h, if_true, bit_mul]

/-- The bits of a sprite within its eight columns are those of its pattern row, flipped or not (R300-R303). -/
theorem spriteBits_eq (s : State) (sl i : Nat) {px : Nat} (hp : px < 8) :
    spriteBits s sl i (spriteLeft s.ppu i + px) =
      pixelBits (s.cart.chr.read (spriteAddr s.ppu sl i)) (s.cart.chr.read (spriteAddr s.ppu sl i + 8))
        (if (s.ppu.oam.read (4 * i + 2)).getLsbD 6 then px else 7 - px) := by
  have bits : ∀ lo hi : Bool, bit hi * 2 + bit lo = (if hi then 2 else 0) + (if lo then 1 else 0) := by decide
  have hx : (s.ppu.oam.read (4 * i + 3)).toNat ≤ (s.ppu.oam.read (4 * i + 3)).toNat + px ∧
    (s.ppu.oam.read (4 * i + 3)).toNat + px < (s.ppu.oam.read (4 * i + 3)).toNat + 8 := by omega
  simp only [spriteBits, spriteLeft, if_pos hx, Nat.add_sub_cancel_left, pixelBits, bits, spriteAddr_eq, spriteRow,
    spriteHeight_eq]

theorem spriteBits_outside {s : State} {sl i x : Nat} (h : ¬(spriteLeft s.ppu i ≤ x ∧ x < spriteLeft s.ppu i + 8)) :
    spriteBits s sl i x = 0 := if_neg h

theorem palIndex_sprite (a : Nat) {c : Nat} (hc : c ≠ 0) (hc' : c < 4) :
    palIndex (0x3F00 + (0x10 + a % 4 * 4 + c)) = 0x10 + a % 4 * 4 + c := by
  simp only [palIndex]
  rw [if_neg (by omega)]
  omega

/-- An opaque pixel's bits are 1 to 3, so that its palette index is none of the four aliases of R81. -/
theorem palIndex_spriteIndex {s : State} {sl i px : Nat} (hp : px < 8)
    (h : spriteBits s sl i (spriteLeft s.ppu i + px) ≠ 0) :
    palIndex (0x3F00 + spriteIndex s sl i (spriteLeft s.ppu i + px)) = spriteIndex s sl i (spriteLeft s.ppu i + px) :=
  palIndex_sprite _ h (by rw [spriteBits_eq s sl i hp]; exact pixelBits_lt _ _ _)

theorem forEach_congr {α : Type} {xs : List α} {f f' : α → State → Res Unit} (h : ∀ x ∈ xs, ∀ s, f x s = f' x s)
    (s : State) : forEach xs f s = forEach xs f' s := by
  induction xs generalizing s with
  | nil => rfl
  | cons x xs ih =>
    rw [forEach_cons, forEach_cons, h x List.mem_cons_self]
    exact congrArg _ (funext fun _ => funext fun t => ih (fun y hy => h y (List.mem_cons_of_mem x hy)) t)

/-- One pixel of sprite `i`: drawn where the sprite is opaque and within the line (R303). -/
def spritePixel (s : State) (sl i px : Nat) (t : State) : Res Unit :=
  if spriteBits s sl i (spriteLeft s.ppu i + px) ≠ 0 ∧ spriteLeft s.ppu i + px ≤ 255 then
    setPixel (spriteLeft s.ppu i + px) sl (spriteIndex s sl i (spriteLeft s.ppu i + px)) t
  else .ok () t

/-- Under the default cartridge a visible sprite's row is its eight pixels, whatever is drawn already (R300, R303). -/
theorem drawSpriteRow_eq {s : State} {sl i : Nat} (hn : s.cfg.cart = .nrom) (hv : spriteVisible s.ppu sl i = true)
    (fb : PixelBuffer) :
    drawSpriteRow sl i (s.setFb fb) = forEach (List.range 8) (spritePixel s sl i) (s.setFb fb) := by
  have ha := spriteAddr_lt hv
  have low := ppuRead_chr (s := s.setFb fb) (a := spriteAddr s.ppu sl i) hn (by omega)
  have high := ppuRead_chr (s := s.setFb fb) (a := spriteAddr s.ppu sl i + 8) hn ha
  simp only [drawSpriteRow, State.setFb_ppu, low, high, Res.andThen_ok]
  refine forEach_congr (fun px hp t => ?_) _
  rw [spritePixel, spriteIndex, spriteBits_eq s sl i (List.mem_range.mp hp)]
  rfl

/-- The indices shown once the first `n` columns of sprite `i` are drawn over `idx`. -/
def spriteOverTo (s : State) (sl : Nat) (idx : Nat → Nat) (i n x : Nat) : Nat :=
  if x < spriteLeft s.ppu i + n then spriteOver s sl idx i x else idx x

theorem spriteOver_transparent {s : State} {sl i x : Nat} {idx : Nat → Nat} (h : spriteBits s sl i x = 0) :
    spriteOver s sl idx i x = idx x := if_neg (not_not_intro h)

theorem spriteOverTo_zero (s : State) (sl : Nat) (idx : Nat → Nat) (i x : Nat) : spriteOverTo s sl idx i 0 x = idx x := by
  rw [spriteOverTo]
  split
  · exact spriteOver_transparent (spriteBits_outside (by omega))
  · rfl

theorem spriteOverTo_eight (s : State) (sl : Nat) (idx : Nat → Nat) (i x : Nat) :
    spriteOverTo s sl idx i 8 x = spriteOver s sl idx i x := by
  rw [spriteOverTo]
  split
  · rfl
  · exact (spriteOver_transparent (spriteBits_outside (by omega))).symm

theorem spriteOverTo_succ_of_ne {s : State} {sl i n x : Nat} {idx : Nat → Nat} (h : x ≠ spriteLeft s.ppu i + n) :
    spriteOverTo s sl idx i (n + 1) x = spriteOverTo s sl idx i n x := if_congr (by omega) rfl rfl

theorem spriteOverTo_succ_self (s : State) (sl : Nat) (idx : Nat → Nat) (i n : Nat) :
    spriteOverTo s sl idx i (n + 1) (spriteLeft s.ppu i + n) = spriteOver s sl idx i (spriteLeft s.ppu i + n) :=
  if_pos (Nat.lt_succ_self _)

theorem spritePixel_shown {s t : State} {sl i px : Nat} {idx : Nat → Nat}
    (h : Shown s sl (spriteOverTo s sl idx i px) t) (hp : PaletteInRange s) (hl : sl ≤ 239) (hpx : px < 8) :
    ∃ u, spritePixel s sl i px t = .ok () u ∧ Shown s sl (spriteOverTo s sl idx i (px + 1)) u := by
  by_cases hc : spriteBits s sl i (spriteLeft s.ppu i + px) ≠ 0 ∧ spriteLeft s.ppu i + px ≤ 255
  · obtain ⟨u, hu, d⟩ := setPixel_shown h hp hl (Nat.lt_succ_of_le hc.2) (palIndex_spriteIndex hpx hc.1)
    refine ⟨u, (if_pos hc).trans hu, d.congr fun x _ => ?_⟩
    by_cases e : x = spriteLeft s.ppu i + px
    · rw [e, spriteOverTo_succ_self, Function.update_self, spriteOver, if_pos hc.1]
    · rw [spriteOverTo_succ_of_ne e, Function.update_of_ne e]
  · refine ⟨t, if_neg hc, h.congr fun x hx => ?_⟩
    by_cases e : x = spriteLeft s.ppu i + px
    · have hz : spriteBits s sl i x = 0 := by_contra fun hz => hc ⟨e ▸ hz, by omega⟩
      rw [e, spriteOverTo_succ_self, ← e, spriteOver_transparent hz, spriteOverTo, if_neg (by omega)]
    · exact spriteOverTo_succ_of_ne e

/-- Drawing a visible sprite shows it over what was shown (R303). -/
theorem drawSpriteRow_shown {s t : State} {sl i : Nat} {idx : Nat → Nat} (h : Shown s sl idx t) (hp : PaletteInRange s)
    (hl : sl ≤ 239) (hn : s.cfg.cart = .nrom) (hv : spriteVisible s.ppu sl i = true) :
    ∃ u, drawSpriteRow sl i t = .ok () u ∧ Shown s sl (spriteOver s sl idx i) u := by
  rw [h.fbOnly, drawSpriteRow_eq hn hv, ← h.fbOnly]
  obtain ⟨u, hu, d⟩ := forEach_range_inv (P := fun n t => Shown s sl (spriteOverTo s sl idx i n) t)
    (fun px hpx t ht => spritePixel_shown ht hp hl hpx) (h.congr fun x _ => spriteOverTo_zero s sl idx i x)
  exact ⟨u, hu, d.congr fun x _ => (spriteOverTo_eight s sl idx i x).symm⟩

/-! ## All the sprites of a line (R298, R299, R304) -/

theorem sprites_shown {s t : State} {sl : Nat} {idx : Nat → Nat} {l : List Nat} (h : Shown s sl idx t)
    (hp : PaletteInRange s) (hl : sl ≤ 239) (hn : s.cfg.cart = .nrom) (hv : ∀ i ∈ l, spriteVisible s.ppu sl i = true) :
    ∃ u, forEach l (drawSpriteRow sl) t = .ok () u ∧ Shown s sl (l.foldl (spriteOver s sl) idx) u := by
  induction l generalizing t idx with
  | nil => exact ⟨t, rfl, h⟩
  | cons i l ih =>
    obtain ⟨u, hu, d⟩ := drawSpriteRow_shown h hp hl hn (hv i List.mem_cons_self)
    obtain ⟨v, hv', d'⟩ := ih d fun j hj => hv j (List.mem_cons_of_mem i hj)
    exact ⟨v, by rw [forEach_cons, hu]; exact hv', d'⟩

/-- The sprite `i` is opaque at column `x` (R303). -/
def spriteOpaque (s : State) (sl x i : Nat) : Bool := decide (spriteBits s sl i x ≠ 0)

/-- Of sprites drawn one over the other, the last opaque one shows (R304). -/
theorem foldl_spriteOver (s : State) (sl x : Nat) (l : List Nat) (idx : Nat → Nat) :
    l.foldl (spriteOver s sl) idx x =
      (l.filter (spriteOpaque s sl x)).getLast?.elim (idx x) fun i => spriteIndex s sl i x := by
  induction l generalizing idx with
  | nil => rfl
  | cons i l ih =>
    rw [List.foldl_cons, ih]
    by_cases h : spriteBits s sl i x = 0
    · have ho : ¬ spriteOpaque s sl x i = true := by rw [spriteOpaque, decide_eq_true_iff]; exact not_not_intro h
      rw [List.filter_cons_of_neg ho, spriteOver_transparent h]
    · have ho : spriteOpaque s sl x i = true := decide_eq_true h
      rw [List.filter_cons_of_pos ho, List.getLast?_cons, spriteOver, if_pos h]
      cases (l.filter (spriteOpaque s sl x)).getLast? <;> rfl

theorem drawnSprites_eq (s : State) (sl : Nat) : drawnSprites s sl = visibleSprites s.ppu sl := by
  simp only [drawnSprites, visibleSprites, Bool.decide_and]
  rfl

/-- The index on top is that of the last opaque sprite in the order `SPRITE_ORDER` draws them (R298, R304). -/
theorem shownIndex_eq {s : State} (hm : s.ppu.mask.getLsbD 4 = true) (sl x : Nat) :
    shownIndex s sl x =
      (drawOrder s.cfg.spriteOrder (visibleSprites s.ppu sl)).foldl (spriteOver s sl) (backgroundIndex s sl) x := by
  have top : (if s.cfg.spriteOrder = .laterDrawnWins then ((drawnSprites s sl).filter (spriteOpaque s sl x)).getLast?
      else ((drawnSprites s sl).filter (spriteOpaque s sl x)).head?) =
      ((drawOrder s.cfg.spriteOrder (visibleSprites s.ppu sl)).filter (spriteOpaque s sl x)).getLast? := by
    rw [drawnSprites_eq]
    cases s.cfg.spriteOrder with
    | laterDrawnWins => rfl
    | lowerIndexWins => rw [drawOrder, List.filter_reverse, List.getLast?_reverse]; rfl
  have opaque_eq : (fun i => decide (spriteBits s sl i x ≠ 0)) = spriteOpaque s sl x := rfl
  simp only [shownIndex, opaque_eq, top, hm, if_true, foldl_spriteOver]
  cases ((drawOrder s.cfg.spriteOrder (visibleSprites s.ppu sl)).filter (spriteOpaque s sl x)).getLast? <;> rfl

theorem visible_of_drawOrder {s : State} {sl i : Nat}
    (h : i ∈ drawOrder s.cfg.spriteOrder (visibleSprites s.ppu sl)) : spriteVisible s.ppu sl i = true :=
  (List.mem_filter.mp (List.mem_of_mem_take (mem_drawOrder.mp h))).2

/-- Settles O38: the sprites are drawn over the background in the order `SPRITE_ORDER` gives. -/
theorem spritesOfAScanline : Obligations.SpritesOfAScanline := by
  unfold Obligations.SpritesOfAScanline
  intro sl s hl hn hm hp
  obtain ⟨t, ht, h⟩ := backgroundPass_shown hl hn hp
  obtain ⟨u, hu, d⟩ := sprites_shown h hp hl hn fun i => visible_of_drawOrder
  refine (d.congr fun x _ => shownIndex_eq hm sl x).exists_fb ?_
  rw [renderScanline, ht, Res.andThen_ok, h.ppu, if_pos hm, spritePass, h.ppu, h.cfg, hu]

end Sys2Proof.Machine

/-! SUPPORT. The cap of eight sprites (O40): the render looks at OAM only where the drawn sprites stand. -/

namespace Sys2Proof.Machine

/-! ## The sprites beyond the eighth (R298, R299) -/

/-- A member of a strictly rising list beyond its first `n` comes after `n` lower ones. -/
theorem take_of_pairwise_lt {l : List Nat} (h : l.Pairwise (· < ·)) {n j : Nat} (hj : j ∈ l) (hn : j ∉ l.take n) :
    (l.take n).length = n ∧ ∀ i ∈ l.take n, i < j := by
  rw [← List.take_append_drop n l] at h hj
  have hd : j ∈ l.drop n := (List.mem_append.mp hj).resolve_left hn
  refine ⟨?_, fun i hi => (List.pairwise_append.mp h).2.2 i hi j hd⟩
  have := List.length_pos_of_mem hd
  rw [List.length_drop] at this
  rw [List.length_take]
  omega

/-! ## Rendering with another OAM -/

/-- The state with another OAM. -/
def State.setOam (oam : Memory) (s : State) : State := s.setPpu { s.ppu with oam := oam }

theorem setOam_busBlind (oam : Memory) : BusBlind (State.setOam oam) := ⟨fun _ => rfl, fun _ => rfl, fun _ => rfl⟩

theorem colour_setOam (p : Byte) (oam : Memory) (s : State) :
    colour p (s.setOam oam) = (colour p s).mapState (State.setOam oam) := by
  simp only [colour, (setOam_busBlind oam).cfg]
  split
  · cases s.cfg.palRange <;> rfl
  · rfl

theorem setPixel_setOam (col row idx : Nat) (oam : Memory) (s : State) :
    setPixel col row idx (s.setOam oam) = (setPixel col row idx s).mapState (State.setOam oam) :=
  (congrArg (Res.andThen · _) (colour_setOam (palByte s.ppu idx) oam s)).trans (Res.mapState_andThen fun _ _ _ => rfl)

/-- A loop of actions blind to OAM is blind to it. -/
theorem forEach_setOam {α : Type} {f : α → State → Res Unit} {oam : Memory}
    (hf : ∀ x s, f x (s.setOam oam) = (f x s).mapState (State.setOam oam)) (xs : List α) (s : State) :
    forEach xs f (s.setOam oam) = (forEach xs f s).mapState (State.setOam oam) :=
  forEach_mapState (P := fun _ => True) (fun x _ s _ => ⟨hf x s, fun _ _ => trivial⟩) trivial

/-- The background is blind to OAM (R291). -/
theorem backgroundTile_setOam (sl col : Nat) (oam : Memory) (s : State) :
    backgroundTile sl col (s.setOam oam) = (backgroundTile sl col s).mapState (State.setOam oam) := by
  have bus (a : Word) (s : State) := ppuRead_mapState (setOam_busBlind oam) a s
  have index (s : State) (group c : Nat) : bgPalIndex (s.setOam oam).ppu group c = bgPalIndex s.ppu group c := rfl
  rw [backgroundTile, bus]
  refine Res.mapState_andThen fun tile s _ => ?_
  rw [bus]
  refine Res.mapState_andThen fun lo s _ => ?_
  rw [bus]
  refine Res.mapState_andThen fun hi s _ => ?_
  rw [bus]
  refine Res.mapState_andThen fun attr s _ => ?_
  refine forEach_setOam (fun px s => ?_) _ s
  rw [index]
  exact setPixel_setOam _ _ _ oam s

theorem spriteVisible_congr {p q : Ppu} {sl i : Nat} (hc : q.ctrl = p.ctrl)
    (h : q.oam.read (4 * i) = p.oam.read (4 * i)) : spriteVisible q sl i = spriteVisible p sl i := by
  have hh : spriteHeight q = spriteHeight p := by rw [spriteHeight, spriteHeight, hc]
  simp only [spriteVisible, hh, h]

/-- A sprite's row depends on its own four bytes of OAM alone (R300). -/
theorem drawSpriteRow_setOam {sl i : Nat} {oam : Memory} {s : State}
    (h : ∀ k < 4, oam.read (4 * i + k) = s.ppu.oam.read (4 * i + k)) :
    drawSpriteRow sl i (s.setOam oam) = (drawSpriteRow sl i s).mapState (State.setOam oam) := by
  have h' {k : Nat} (hk : k < 4) : (s.setOam oam).ppu.oam.read (4 * i + k) = s.ppu.oam.read (4 * i + k) := h k hk
  have hy : (s.setOam oam).ppu.oam.read (4 * i) = s.ppu.oam.read (4 * i) := h 0 (by decide)
  have hh : spriteHeight (s.setOam oam).ppu = spriteHeight s.ppu := rfl
  have hc : (s.setOam oam).ppu.ctrl = s.ppu.ctrl := rfl
  have hr : spriteRow (s.setOam oam).ppu sl i = spriteRow s.ppu sl i := by
    simp only [spriteRow, hy, hh, h' (show 2 < 4 by decide)]
  have ha : spriteAddr (s.setOam oam).ppu sl i = spriteAddr s.ppu sl i := by
    simp only [spriteAddr, hr, hh, hc, h' (show 1 < 4 by decide)]
  simp only [drawSpriteRow, ha, h' (show 2 < 4 by decide), h' (show 3 < 4 by decide),
    ppuRead_mapState (setOam_busBlind oam)]
  refine Res.mapState_andThen fun lo t _ => ?_
  rw [ppuRead_mapState (setOam_busBlind oam)]
  refine Res.mapState_andThen fun hi t _ => forEach_setOam (fun px t => ?_) _ t
  generalize pixelBits _ _ _ = c
  split
  · exact setPixel_setOam _ _ _ oam t
  · rfl

/-- A scanline renders the same with an OAM that agrees on which sprites are visible and on those that are drawn (R299). -/
theorem renderScanline_setOam {sl : Nat} {oam : Memory} {s : State}
    (hv : visibleSprites (s.setOam oam).ppu sl = visibleSprites s.ppu sl)
    (h : ∀ i ∈ visibleSprites s.ppu sl, ∀ k < 4, oam.read (4 * i + k) = s.ppu.oam.read (4 * i + k)) :
    renderScanline sl (s.setOam oam) = (renderScanline sl s).mapState (State.setOam oam) := by
  rw [renderScanline, backgroundPass, forEach_setOam (backgroundTile_setOam sl · oam)]
  refine Res.mapState_andThen fun _ t ht => ?_
  have hp : t.ppu = s.ppu := by
    rw [(forEach_range_frame (fun col hc s t => backgroundTile_frame hc) ht).1]
    rfl
  have hv' : visibleSprites (t.setOam oam).ppu sl = visibleSprites t.ppu sl := by
    rw [hp, ← hv]
    exact congrArg (fun p : Ppu => visibleSprites { p with oam := oam } sl) hp
  have hm : (t.setOam oam).ppu.mask = t.ppu.mask := rfl
  rw [hm]
  split
  · rw [spritePass, spritePass, hv', (setOam_busBlind oam).cfg, hp]
    refine forEach_mapState (P := fun u => u.ppu = s.ppu) (fun i hi u hu => ⟨?_, fun v hv => ?_⟩) hp
    · exact drawSpriteRow_setOam (hu ▸ h i (mem_drawOrder.mp hi))
    · rw [(drawSpriteRow_frame hv).1]
      exact hu
  · rfl

theorem visibleSprites_length_le (p : Ppu) (sl : Nat) : (visibleSprites p sl).length ≤ 8 := List.length_take_le _ _

/-- Settles O40: a visible sprite that is not drawn comes after eight that are, and the render does not look at it. -/
theorem ninthSpriteIsDropped : Obligations.NinthSpriteIsDropped := by
  unfold Obligations.NinthSpriteIsDropped
  refine fun sl j s => ⟨visibleSprites_length_le _ _, fun hj hv hd => ?_⟩
  have sorted : ((List.range 64).filter (spriteVisible s.ppu sl)).Pairwise (· < ·) := List.pairwise_lt_range.filter _
  obtain ⟨hlen, hlt⟩ := take_of_pairwise_lt sorted (List.mem_filter.mpr ⟨List.mem_range.mpr hj, hv⟩) hd
  refine ⟨hlen, hlt, fun oam t hk hy ht => ?_⟩
  have visible (i : Nat) : spriteVisible (s.setOam oam).ppu sl i = spriteVisible s.ppu sl i := by
    refine spriteVisible_congr rfl ?_
    by_cases e : i = j
    · rw [e]; exact hy
    · exact hk _ (by omega)
  have same : visibleSprites (s.setOam oam).ppu sl = visibleSprites s.ppu sl := by
    rw [visibleSprites, visibleSprites, funext visible]
  have drawn : ∀ i ∈ visibleSprites s.ppu sl, ∀ k < 4, oam.read (4 * i + k) = s.ppu.oam.read (4 * i + k) := by
    intro i hi k hk4
    have := hlt i hi
    exact hk _ (by omega)
  exact (renderScanline_setOam same drawn).trans (congrArg (Res.mapState _) ht)

end Sys2Proof.Machine
